-- ==== Sys2Proof/Word.lean ====
section
/-!
DEFINITION. The words of the PT-460: bytes, glyph codes, show-clock readings, sweep numbers and checks,
and the four-fold record used for things that come once per screen or once per listener slot.
-/

namespace Sys2Proof

/-- One byte of a line. -/
abbrev Byte := BitVec 8

/-- A glyph code, 0x0020 to 0xFFFF (04, section 4.1). -/
abbrev Glyph := BitVec 16

/-- A reading of the show clock, the free-running 32-bit microsecond counter (00, Conventions). -/
abbrev ShowTime := BitVec 32

/-- A sweep number, 0 to 65,535, wrapping (R86). -/
abbrev SweepNo := BitVec 16

/-- A check value (R180). -/
abbrev Check := BitVec 16

/-- One value for each of the four screens, or of the four listener slots. -/
structure Four (α : Type) where
  s0 : α
  s1 : α
  s2 : α
  s3 : α
deriving DecidableEq, Repr

/-- The value held for number `i`. -/
def Four.get {α : Type} (q : Four α) (i : Fin 4) : α :=
  match i with
  | 0 => q.s0
  | 1 => q.s1
  | 2 => q.s2
  | 3 => q.s3

/-- The record with the value of number `i` replaced. -/
def Four.set {α : Type} (q : Four α) (i : Fin 4) (a : α) : Four α :=
  match i with
  | 0 => { q with s0 := a }
  | 1 => { q with s1 := a }
  | 2 => { q with s2 := a }
  | 3 => { q with s3 := a }

/-- Every value replaced by a function of its number and itself. -/
def Four.mapIdx {α β : Type} (q : Four α) (f : Fin 4 → α → β) : Four β :=
  { s0 := f 0 q.s0, s1 := f 1 q.s1, s2 := f 2 q.s2, s3 := f 3 q.s3 }

/-- The same value four times. -/
def Four.replicate {α : Type} (a : α) : Four α :=
  { s0 := a, s1 := a, s2 := a, s3 := a }

/-- The four numbers in ascending order. -/
def fourNumbers : List (Fin 4) := [0, 1, 2, 3]

/-- The screen or slot that a number names, when it lies in 0 to 3. -/
def fourth? (n : Nat) : Option (Fin 4) :=
  if h : n < 4 then some ⟨n, h⟩ else none

end Sys2Proof
end

