-- ==== Sys2Proof/Config.lean ====
section
/-!
DEFINITION. What a part of silicon revision 3 fixes (R172), and the values the spec leaves open: opaque
constants applied to the state's counter of free values used.
-/

namespace Sys2Proof.Config

/-- Meter entries the map can hold (R1). -/
def maxMeter : Nat := 128
/-- Cues the list can hold (R27). -/
def maxCues : Nat := 2048
/-- Pages the store can hold; page ids run from 1 to this (R65). -/
def maxPages : Nat := 4095
/-- Glyphs of the page store's pool (R65). -/
def glyphPool : Nat := 262144
/-- Records the request queue holds (R165). -/
def queueDepth : Nat := 4
/-- FULL answers the reply path holds (R167). -/
def maxFullAnswers : Nat := 4
/-- Notices the notice queue holds (R171). -/
def noticeDepth : Nat := 32
/-- Entries of the shown history (R43). -/
def historyDepth : Nat := 8
/-- Highest cue number (R29). -/
def maxCueNumber : Nat := 65000
/-- Grains of one beat (00, Conventions). -/
def beatGrains : Nat := 192
/-- Last bar of every meter map (R3). -/
def lastBar : Nat := 9999
/-- Least and greatest beat period in µs (R14). -/
def minPeriod : Nat := 200000
def maxPeriod : Nat := 3000000
/-- Microseconds of 600,000,000 / (bpm×10): one beat at tempo 1 (R6, R18). -/
def tempoScale : Nat := 600000000
/-- The vendor code (R172). -/
def vendor : Nat := 0x2E61
/-- The silicon revision (R172). -/
def revision : Nat := 3
/-- The control line rates the RATE strap selects (R162). -/
def slowRate : Nat := 115200
def fastRate : Nat := 460800

/-- The show clock's reading at power-on: the spec gives none (log 4). A free value. -/
opaque powerOnClock : Nat → ShowTime

/-- Whether the clearing of partial marks at a boundary is taken before the mark of that boundary: the
spec allows both orders (R105's worked case, log 10). A free value. -/
opaque partialClearFirst : Nat → Bool

/-- Whether a full reset begun during a full reset's period gives the period its own cause: the spec
states a result only for a show-safe period (R176, log 11). A free value. -/
opaque fullCauseReplaced : Nat → Bool

end Sys2Proof.Config
end

