-- ==== Sys2Proof/Syntax.lean ====
section
/-!
DEFINITION. The commands of the PT-460: one constructor of `Instr` for each row of
spec/opcode_table.json, with the operands the row's rule gives it.
-/

namespace Sys2Proof

/-- A score position written bar:beat:grain (00, Conventions). -/
structure Bbg where
  bar : Nat
  beat : Nat
  grain : Nat
deriving DecidableEq, Repr

/-- One entry of a LOAD_METER list (R2). -/
structure MeterPair where
  firstBar : Nat
  beats : Nat
deriving DecidableEq, Repr

/-- What makes a cue ready (R23). -/
inductive CueKind where
  | timed | manual | stage | follow
deriving DecidableEq, Repr

/-- A (lane, page id) pair of a cue (R24). -/
structure PageRef where
  lane : Nat
  page : Nat
deriving DecidableEq, Repr

/-- A cue record as the host gives it in LOAD_CUE (02, section 2.1). -/
structure CueRecord where
  number : Nat
  kind : CueKind
  anchor : Option Bbg
  slot : Option Nat
  delayMs : Option Nat
  leadMs : Option Nat
  dwellMs : Option Nat
  essential : Bool
  cut : Bool
  pages : List PageRef
deriving DecidableEq, Repr

/-- A page of text (04, section 4.1). -/
structure Page where
  id : Nat
  lane : Nat
  lines : List (List Glyph)
deriving DecidableEq, Repr

/-- An enabled screen's configuration (R69). -/
structure ScreenSetup where
  lane : Nat
  tiles : List Nat
  cpt : Nat
deriving DecidableEq, Repr

/-- The place a SHOW_PAGE or CLEAR_OVERRIDE names (R81, R82). -/
inductive Place where
  | screen (n : Nat)
  | lane (n : Nat)
deriving DecidableEq, Repr

/-- The modes EXACT and FROM of READ_CUE (R35). -/
inductive ReadMode where
  | exactly | atOrAfter
deriving DecidableEq, Repr

/-- The seven actions of a listener slot (08, section 8.2). -/
inductive SlotAction where
  | fireStage | go | hold | release | blackout | lift | sync
deriving DecidableEq, Repr

/-- The settings SET_LISTENER carries; `action` is none for a code that is none of the seven (R143). -/
structure ListenerSetup where
  positions : List Nat
  expected : Check
  action : Option SlotAction
  argument : Option Bbg
  refractoryMs : Nat
deriving DecidableEq, Repr

/-- What the bus pair returns in the 2,000 ns after a line-test pulse (R153): the pulse's own amplitude,
and the samples taken every 4 ns, signed by the pulse's polarity. -/
structure Echo where
  amplitude : Nat
  samples : List Int
deriving DecidableEq, Repr

/-- A byte taken from a serial line, and whether its stop bit was there (R140, R162). -/
structure LineByte where
  byte : Byte
  stopBit : Bool
deriving DecidableEq, Repr

/-- The two events of the row RESET_RELEASE (R176). -/
inductive ReleaseEvent where
  | resetFalls | supplyReady
deriving DecidableEq, Repr

/-- The commands, in the order of spec/opcode_table.json. -/
inductive Instr where
  | identify
  | status
  | setParam (id value : Nat)
  | getParam (id : Nat)
  | restart
  | unknownKind
  | loadMeter (entries : List MeterPair)
  | sync (pos : Bbg)
  | setTempo (bpm10 : Nat)
  | tap
  | loadCue (record : CueRecord)
  | deleteCue (n : Nat)
  | readCue (n : Nat) (mode : ReadMode)
  | clearAct
  | arm (pos : Bbg) (tempo first : Option Nat) (held : Bool)
  | stop
  | go
  | jump (n : Nat) (withSync withFire : Bool)
  | back
  | hold
  | release
  | loadPage (page : Page)
  | deletePage (id : Nat)
  | setScreen (n : Nat) (setup : Option ScreenSetup)
  | showPage (page : Nat) (place : Place)
  | clearOverride (place : Place)
  | groupHold
  | groupRelease
  | blackout
  | lift
  | setListener (slot : Nat) (setup : ListenerSetup)
  | clearListener (slot : Nat)
  | readListener (slot : Nat)
  | lineTest (echo : Echo)
  | survey
  | controlRecordReceive (bytes : List LineByte)
  | ctlByteGapExpiry
  | transmitStart
  | transmitEnd
  | powerOn
  | resetAssert (keep : Bool)
  | resetRelease (event : ReleaseEvent) (fastStrap : Bool)
  | restartPeriodExpiry (fastStrap : Bool)
  | beatPulse
  | clampExpiry
  | lossExpiry
  | sweepBoundary
  | controllerBoundary
  | forcedCommit
  | quietEntry
  | refreshMark
  | wakeDone
  | schedulerBoundary
  | commitReport
  | slotStart
  | ack (frame : List Byte)
  | pollReply (frame : List Byte)
  | replyWindowClose
  | ownershipBoundary
  | silenceCountExpiry
  | divergenceCountExpiry
  | contentionCountExpiry
  | peerFrame (frame : List Byte)
  | grantRise
  | grantFall
  | peerDriveRise
  | peerDriveFall
  | lineTestPulse (echo : Echo)
  | lineTestComplete
  | showFrame (bytes : List LineByte)
  | showByteGapExpiry
  | refractoryExpiry (slot : Nat)
  | showFrameFails (bytes : List LineByte)
deriving DecidableEq, Repr

end Sys2Proof
end

