-- ==== Sys2Proof/Decode.lean ====
section
/-!
DEFINITION. Reading a command from a word of spec/opcode_table.json. Every row of the table has an empty
list of fields and no bits, so no word spells a command; commands reach the part through its queue.
-/

namespace Sys2Proof

/-- The command a word of the table spells: none, since the table gives no row bits. -/
def decodeTableWord (_nbits _w : Nat) : Option Instr := none

end Sys2Proof
end

