-- ==== Sys2Proof/Machine/State.lean ====
section
/-!
DEFINITION. The state of the PT-460: everything the spec gives the part, as plain data, and the state
right after reset.
-/

namespace Sys2Proof.Machine

/-! ### Score position and tempo (01) -/

/-- An entry of the meter map, its start grain computed when it was appended (R3). -/
structure MeterEntry where
  firstBar : Nat
  beats : Nat
  startGrain : Nat
deriving DecidableEq, Repr

/-- The tracker states (R6, R20). -/
inductive TrackerMode where
  | stopped | free | following | waiting | lost
deriving DecidableEq, Repr

/-- The Position Tracker (01, section 1.2). The step is 192 / `ppb`. -/
structure Tracker where
  mode : TrackerMode
  /-- the confirmed position C, in grains -/
  confirmed : Nat
  /-- the time of the last pulse, tc -/
  tc : ShowTime
  /-- the beat period P, in µs -/
  period : Nat
  /-- pulses per beat in effect -/
  ppb : Nat
  pendingPpb : Option Nat
  pulseCounter : Nat
  lossOpen : Bool
deriving DecidableEq, Repr

/-- A full position field: grains with their bar:beat:grain (R181). -/
structure FullPos where
  grains : Nat
  bbg : Bbg
deriving DecidableEq, Repr

/-- The outcomes of a pulse (R10, R11). -/
inductive PulseOutcome where
  | ignored | marked | stray | accepted | late | regained
deriving DecidableEq, Repr

/-! ### Parameters (10, section 10.8) -/

inductive BeatSource where
  | line | tap | both
deriving DecidableEq, Repr

inductive PartialPolicy where
  | showTorn | blankScreen
deriving DecidableEq, Repr

/-- The parameters, PULSES_PER_BEAT apart: the tracker holds its value in effect and its pending one. -/
structure Params where
  sweepPeriod : Nat
  beatSource : BeatSource
  followGain : Nat
  lossBeats : Nat
  defaultLead : Nat
  defaultDwell : Nat
  tileLatency : Nat
  graceSweeps : Nat
  partialPolicy : PartialPolicy
  quietDelay : Nat
  busRequest : Bool
  busHold : Bool
  commitHold : Bool
  divergenceSweeps : Nat
  shadowFollow : Bool
  positionReport : Nat
  velocityFactor : Nat
deriving DecidableEq, Repr

/-! ### Cue list and scheduler (02, 03) -/

/-- A stored cue: the record as loaded and its anchor in grains (R26). -/
structure Cue where
  record : CueRecord
  anchorGrains : Option Nat
deriving DecidableEq, Repr

inductive SchedMode where
  | idle | running | held
deriving DecidableEq, Repr

/-- The next pointer (R40): absent in IDLE. -/
inductive NextPtr where
  | absent
  | cue (n : Nat)
  | endOfList
deriving DecidableEq, Repr

/-- What fired a cue (R41). -/
inductive Trigger where
  | timed | follow | stage | go | jump | back | adopt
deriving DecidableEq, Repr

/-- The live cue record (R41). -/
structure LiveRecord where
  cue : Option Nat
  sweep : SweepNo
  trigger : Option Trigger
deriving DecidableEq, Repr

/-- A running FOLLOW timer. `fresh`: started by the commit report that set the no-rise flag (R44). -/
structure FollowTimer where
  count : Nat
  fresh : Bool
deriving DecidableEq, Repr

/-- The trigger a pending GO holds (R45). -/
inductive PendingGo where
  | go | jump
deriving DecidableEq, Repr

/-- The Cue Scheduler (03, section 3.1). -/
structure Scheduler where
  mode : SchedMode
  next : NextPtr
  live : LiveRecord
  dwell : Nat
  noRise : Bool
  follow : Option FollowTimer
  pendingGo : Option PendingGo
  /-- the shown history, oldest first (R43) -/
  history : List Nat
  blackout : Bool
deriving DecidableEq, Repr

/-! ### Page store and screens (04) -/

/-- What the live cue gives a screen's lane (R69). -/
inductive CueSource where
  | blank (cue : Option Nat)
  | page (cue page : Nat)
deriving DecidableEq, Repr

/-- A shown source (R69). -/
inductive Source where
  | blank (cue : Option Nat)
  | cue (cue page : Nat)
  | override (page : Nat)
  | dark
deriving DecidableEq, Repr

/-- A shown source with its found mark, which only page sources use. -/
structure Shown where
  source : Source
  found : Bool
deriving DecidableEq, Repr

/-- A waiting override edit (R76). -/
inductive OverrideEdit where
  | set (page : Nat)
  | clear
deriving DecidableEq, Repr

/-- One tile's segment: 3 × cpt glyph codes, top line first (R74). -/
structure Segment where
  tile : Nat
  codes : List Glyph
deriving DecidableEq, Repr

/-- What the composer and the panel bus controller hold for one screen. -/
structure Screen where
  setup : Option ScreenSetup
  cueSource : CueSource
  override : Option Nat
  live : Shown
  pendingShown : Option Shown
  liveTag : Nat
  tagCounter : Nat
  /-- waiting work (R76) -/
  edit : Option OverrideEdit
  restore : Bool
  reissue : Bool
  initialBlank : Bool
  /-- kept segments (R102), none as the empty list -/
  kept : List Segment
  /-- partial mark (R99) -/
  partialMark : Bool
deriving DecidableEq, Repr

/-- The instruction a change gives a screen (R74). -/
inductive ScreenInstr where
  | none
  | swap (tag : Nat)
  | blank
deriving DecidableEq, Repr

/-- A screen entry of a change (R75). -/
structure Entry where
  screen : Fin 4
  shown : Shown
  instr : ScreenInstr
  segments : List Segment
deriving DecidableEq, Repr

/-- The cue source and override an enabled screen takes at a change's commit (R75). -/
structure Take where
  screen : Fin 4
  cueSource : CueSource
  override : Option Nat
deriving DecidableEq, Repr

/-- A firing handed to the composer (R50). -/
structure Firing where
  cue : Nat
  trigger : Trigger
  record : CueRecord
deriving DecidableEq, Repr

/-- The change in flight: what the composer built (R75) and what the controller holds of it (R95). -/
structure Change where
  firing : Option Firing
  takes : List Take
  entries : List Entry
  clipped : List Nat
  missing : List Nat
  /-- the mark of a blackout change (R80) -/
  blackout : Bool
  /-- built with the blackout flag on (R78) -/
  builtDark : Bool
  initialBlanks : List (Fin 4)
  required : List Nat
  acked : List Nat
  markCount : Nat
  /-- in flight before the first slot of the interval the next mark closes (R96) -/
  whole : Bool
deriving DecidableEq, Repr

/-- A commit report on its way to the scheduler (R58, R78). -/
structure CommitReport where
  cue : Nat
  trigger : Trigger
  sweep : SweepNo
  position : Option FullPos
  dark : Bool
  shadow : Bool
  clipped : List Nat
  missing : List Nat
  partialScreens : List (Fin 4)
deriving DecidableEq, Repr

/-! ### Panel bus (05, 06, 09) -/

inductive LinkState where
  | active | quiet | waking
deriving DecidableEq, Repr

/-- The kind of a screen's shown source in a sweep frame (R88, R181). -/
inductive SourceKind where
  | off | blank | cue | override | dark
deriving DecidableEq, Repr

/-- The instruction field of a sweep frame's screen entry (R181). -/
inductive MarkInstr where
  | none | swap | blank
deriving DecidableEq, Repr

/-- One screen entry of a sweep frame (R88). -/
structure AsShown where
  instr : MarkInstr
  liveTag : Nat
  tagCounter : Nat
  kind : SourceKind
  cue : Option Nat
  page : Option Nat
  partialMark : Bool
deriving DecidableEq, Repr

/-- A sweep frame (R88). -/
structure SweepFrame where
  number : SweepNo
  quiet : Bool
  wake : Bool
  takeover : Bool
  tracker : TrackerMode
  grains : Option Nat
  tempo : Nat
  /-- the screen of each address, 1 first -/
  tileMap : List (Option (Fin 4))
  screens : Four AsShown
deriving DecidableEq, Repr

/-- A frame of the panel bus (11, section 11.4). -/
inductive BusFrame where
  | sweep (f : SweepFrame)
  | content (tile tag cpt : Nat) (codes : List Glyph)
  | poll (tile : Nat)
deriving DecidableEq, Repr

/-- A sweep boundary on its way to one of the three blocks it reaches (R86): its number, its time, the
SWEEP_PERIOD in ms of the sweep it begins, and whether a peer frame made it (R125). -/
structure Boundary where
  number : SweepNo
  time : ShowTime
  periodMs : Nat
  byPeer : Bool
deriving DecidableEq, Repr

/-- The running sweep timer: the start and the length in µs of the present sweep (R86). -/
structure SweepTimer where
  start : ShowTime
  length : Nat
deriving DecidableEq, Repr

/-- The interval after a mark (R91, R92). -/
structure Interval where
  sweep : SweepNo
  start : ShowTime
  slots : Nat
  /-- the next slot to begin -/
  next : Nat
  /-- the first slot after those of the last frame started -/
  busy : Nat
  /-- tiles sent their first attempt, tiles whose first attempt went unacknowledged, tiles sent a retry -/
  attempted : List Nat
  failed : List Nat
  retried : List Nat
  repaired : List Nat
  /-- the interval carries frames: the link is ACTIVE and no reset period is under way -/
  carries : Bool
  /-- the interval began while the survey ran (R158) -/
  surveyed : Bool
deriving DecidableEq, Repr

/-- The kinds of frame a slot carries (R92, R158). -/
inductive SlotFrame where
  | first | retry | repair | outPoll | surveyPoll
deriving DecidableEq, Repr

/-- The reply window of the frame in progress (R91, R93). -/
structure Window where
  frame : SlotFrame
  sweep : SweepNo
  tile : Nat
  tag : Nat
  opens : ShowTime
  closes : ShowTime
  answered : Bool
deriving DecidableEq, Repr

inductive TileState where
  | unknown | inService | out
deriving DecidableEq, Repr

inductive Presence where
  | unknown | present | absent
deriving DecidableEq, Repr

/-- An entry of the tile table (R103). Screen and index follow from the screen map. -/
structure Tile where
  address : Nat
  state : TileState
  lastTag : Option Nat
  repairDue : Bool
  /-- the tag of the repair frame the tile acknowledged (R105) -/
  repairTag : Option Nat
  heldTags : List Nat
  capacity : Option Nat
  presence : Presence
deriving DecidableEq, Repr

/-- The Panel Bus Controller. -/
structure PanelBus where
  timer : Option SweepTimer
  sweepNumber : SweepNo
  controllerDue : List Boundary
  schedulerDue : List Boundary
  ownershipDue : List Boundary
  interval : Option Interval
  window : Option Window
  link : LinkState
  quietCount : Nat
  /-- boundaries since the last mark sent (R116) -/
  sinceMark : Nat
  /-- boundaries since the wake mark (R117) -/
  sinceWake : Nat
  tiles : List Tile
  pollPosition : Nat
  /-- the as-shown record of the last mark (R108) -/
  lastShown : Option (Four AsShown)
  /-- the frame last put on the panel bus -/
  busOut : Option BusFrame
deriving DecidableEq, Repr

/-! ### Ownership (07) -/

inductive OwnerState where
  | shadow | granted | driving | releasing
deriving DecidableEq, Repr

/-- The Ownership Unit and its lines. -/
structure Ownership where
  state : OwnerState
  drive : Bool
  request : Bool
  grant : Bool
  peerDrive : Bool
  takeover : Bool
  heldChange : Bool
  contention : Nat
  bothDriving : Bool
  posFollow : Bool
deriving DecidableEq, Repr

/-- The peer mirror (07, section 7.2). -/
structure Mirror where
  current : Bool
  number : SweepNo
  link : LinkState
  tracker : TrackerMode
  grains : Option Nat
  tempo : Nat
  screens : Four AsShown
  silence : Nat
  silent : Bool
  divergence : Nat
  divergenceOpen : Bool
deriving DecidableEq, Repr

/-! ### Stage listener (08) -/

inductive ShowPhase where
  | hunt | length | body | check
deriving DecidableEq, Repr

/-- The show-control receiver (R140): the bytes taken since the start byte, the length first. -/
structure ShowReceiver where
  phase : ShowPhase
  length : Nat
  bytes : List Byte
  lastByte : ShowTime
deriving DecidableEq, Repr

/-- The settings of an enabled slot (08, section 8.2). -/
structure SlotSetup where
  positions : List Nat
  expected : Check
  action : SlotAction
  argument : Option Bbg
  refractoryMs : Nat
deriving DecidableEq, Repr

/-- A listener slot; disabled when it holds no settings. -/
structure Slot where
  setup : Option SlotSetup
  latch : Bool
  refractoryEnd : Option ShowTime
deriving DecidableEq, Repr

structure Listener where
  receiver : ShowReceiver
  slots : Four Slot
deriving DecidableEq, Repr

/-! ### Line test and survey (09) -/

inductive EchoClass where
  | opened | shorted | mismatch
deriving DecidableEq, Repr

structure Reflection where
  delayNs : Nat
  cls : EchoClass
deriving DecidableEq, Repr

inductive TestAbort where
  | grantFall | peerDrive | driveStart | reset
deriving DecidableEq, Repr

inductive TestOutcome where
  | normal
  | fault (cls : EchoClass) (delayNs distanceDm : Nat)
  | aborted (cause : TestAbort)
deriving DecidableEq, Repr

/-- A line-test result record (09, section 9.1). -/
structure TestResult where
  outcome : TestOutcome
  reflected : Nat
  velocityFactor : Nat
  sweep : SweepNo
deriving DecidableEq, Repr

/-- The line test unit; running since `started`. -/
structure LineTest where
  started : Option ShowTime
  pulses : Nat
  reflections : List Reflection
  last : Option TestResult
deriving DecidableEq, Repr

inductive SurveyTurn where
  | survey | out
deriving DecidableEq, Repr

inductive Found where
  | notPolled
  | unanswered
  | answered (capacity status : Nat)
deriving DecidableEq, Repr

/-- The survey (09, section 9.2); `found` in address order. -/
structure Survey where
  running : Bool
  nextAddress : Nat
  turn : SurveyTurn
  found : List Found
deriving DecidableEq, Repr

/-! ### Notices (R171) -/

inductive ResetCause where
  | power | lineFull | lineKeep | request
deriving DecidableEq, Repr

inductive LapseCause where
  | endOfList | stop | arm | back | adopt
deriving DecidableEq, Repr

inductive LinkCause where
  | idleScreens | wake | wakeDone | ownership
deriving DecidableEq, Repr

inductive OwnerCause where
  | grantRise | grantFall | driveStart | driveResumed | releaseDone
deriving DecidableEq, Repr

inductive ContentionCause where
  | waiting | bothDriving
deriving DecidableEq, Repr

/-- The status codes (10, section 10.2). -/
inductive Status where
  | ok | adjusted | refusedState | badArgument | notFound | inUse | storeFull | busy | full | unknownKind
deriving DecidableEq, Repr

/-- The outcomes of a listener action (R148). -/
inductive MatchOutcome where
  | latched | alreadyLatched | ignored
  | taken (status : Status)
  | refused (status : Status)
deriving DecidableEq, Repr

/-- What BLACKOUT answers (R110). -/
inductive DarkAnswer where
  | darkened (superseded : Option (Option Nat))
  | alreadyDark
deriving DecidableEq, Repr

/-- The detail a LISTENER_MATCH carries (R150). -/
inductive MatchDetail where
  | none
  | fired (cue : Nat)
  | pending
  | dark (answer : DarkAnswer)
  | lift (issued : Bool)
  | sync (grains : Nat)
deriving DecidableEq, Repr

inductive Mismatch where
  | absentConfigured (address : Nat) (screen : Fin 4)
  | unassigned (address : Nat)
  | shortCapacity (address : Nat) (screen : Fin 4) (capacity cpt : Nat)
deriving DecidableEq, Repr

inductive SurveyAbort where
  | driveLost | linkQuiet
deriving DecidableEq, Repr

/-- The reason of a CUE_SKIPPED (R51). -/
inductive SkipReason where
  | overtaken
deriving DecidableEq, Repr

/-- The cause of a TILE_OUT (R98). -/
inductive OutCause where
  | noAck
deriving DecidableEq, Repr

/-- What SURVEY_DONE carries (R160, R161). -/
structure SurveyReport where
  present : List (Nat × Nat × Nat)
  mismatches : List Mismatch
  notPolled : List Nat
  abort : Option SurveyAbort
  sweep : SweepNo
deriving DecidableEq, Repr

/-- The notices, with what each carries. -/
inductive Notice where
  | hello (cause : ResetCause) (kept : Bool) (revision rate : Nat) (sweep : SweepNo)
  | position (pos : Option FullPos) (tempo : Nat) (mode : TrackerMode)
  | beatLost (pos : Option FullPos) (tempo : Nat)
  | beatRegained (pos : Option FullPos) (tempo : Nat)
  | cueLive (report : CommitReport)
  | cueSkipped (cue : Nat) (reason : SkipReason) (chosen : Nat) (sweep : SweepNo) (pos : Option FullPos)
  | goLapsed (cause : LapseCause) (sweep : SweepNo)
  | tileOut (address : Nat) (screen : Option (Fin 4)) (sweep : SweepNo) (cause : OutCause)
  | tileIn (address : Nat) (screen : Option (Fin 4)) (sweep : SweepNo) (liveTag pendingTag : Nat)
  | linkState (new old : LinkState) (sweep : SweepNo) (cause : LinkCause)
  | ownership (new old : OwnerState) (sweep : SweepNo) (cause : OwnerCause) (takeover : Bool)
  | contention (cause : ContentionCause) (count : Nat) (sweep : SweepNo)
  | peerSilent (last : Option SweepNo) (count : Nat) (quiet : Bool)
  | divergence (sweep : SweepNo) (screens : List (Fin 4)) (live peer : Option Nat) (counter : Nat)
  | positionAdopted (sweep : SweepNo) (pos : Option FullPos) (tempo : Nat)
  | listenerMatch (slot : Fin 4) (action : SlotAction) (outcome : MatchOutcome) (detail : MatchDetail)
      (arrival : ShowTime) (sweep : SweepNo)
  | lineTestDone (result : TestResult)
  | surveyDone (report : SurveyReport)
deriving DecidableEq, Repr

/-! ### Control port (10) -/

/-- A control record's kind and body. -/
structure Record where
  kind : Byte
  body : List Byte
deriving DecidableEq, Repr

inductive CtlPhase where
  | hunt | length | kind | body | check
deriving DecidableEq, Repr

/-- The record receiver (R162): the bytes taken since the sync, the length first. -/
structure CtlReceiver where
  phase : CtlPhase
  length : Nat
  bytes : List Byte
  lastByte : ShowTime
deriving DecidableEq, Repr

/-- The limits IDENTIFY gives for one parameter (R172). -/
inductive ParamLimit where
  | range (least greatest : Nat)
  | members (values : List Nat)
  | codes (count : Nat)
deriving DecidableEq, Repr

/-- The reply body of IDENTIFY (R172). -/
structure IdentifyReport where
  vendor : Nat
  partName : String
  revision : Nat
  rate : Nat
  cues : Nat
  pages : Nat
  glyphs : Nat
  meterEntries : Nat
  screens : Nat
  tiles : Nat
  lanes : Nat
  slots : Nat
  history : Nat
  requestQueue : Nat
  noticeQueue : Nat
  grainsPerBeat : Nat
  limits : List ParamLimit
deriving DecidableEq, Repr

/-- One tile of a STATUS reply (R173). -/
structure TileReport where
  screen : Option (Fin 4)
  state : TileState
  presence : Presence
  capacity : Option Nat
deriving DecidableEq, Repr

/-- The reply body of STATUS (R173). -/
structure StatusReport where
  trackerMode : TrackerMode
  position : Option FullPos
  tempo : Nat
  schedMode : SchedMode
  live : LiveRecord
  next : NextPtr
  history : Nat
  blackout : Bool
  owner : OwnerState
  peerNumber : SweepNo
  peerLink : LinkState
  mirrorCurrent : Bool
  /-- the link state, reported while DRIVING or RELEASING -/
  link : Option LinkState
  peerQuiet : Bool
  sweep : SweepNo
  inFlight : Bool
  tiles : List TileReport
  cues : Nat
  meterEntries : Nat
  pages : Nat
  glyphs : Nat
  requests : Nat
  notices : Nat
  resetCause : ResetCause
  resetShowSafe : Bool
  lineTest : Option TestResult
deriving DecidableEq, Repr

/-- The reply body of READ_CUE (R35). -/
structure CueReading where
  record : CueRecord
  anchorGrains : Option Nat
  live : Bool
  inFlight : Bool
  next : Bool
  history : Nat
  count : Nat
deriving DecidableEq, Repr

/-- How an override edit stands after its request (R81). -/
inductive EditStanding where
  | issued | waits | grouped
deriving DecidableEq, Repr

/-- What JUMP did with its cue (R55). -/
inductive JumpOutcome where
  | pointed | fired | pending
deriving DecidableEq, Repr

/-- The reply body of READ_LISTENER (R145). -/
structure SlotReading where
  setup : Option SlotSetup
  latch : Bool
  refractoryMsLeft : Option Nat
deriving DecidableEq, Repr

/-- The reply bodies. -/
inductive ReplyBody where
  | empty
  | identify (report : IdentifyReport)
  | status (report : StatusReport)
  /-- the id, the value, and for PULSES_PER_BEAT the value in effect and whether one is pending -/
  | param (id value : Nat) (ppb : Option (Nat × Bool))
  | position (grains : Nat)
  | tempo (bpm10 : Nat)
  | tap (outcome : PulseOutcome) (mode : TrackerMode) (position : Option Nat)
  | cueLoaded (inserted : Bool) (count : Nat)
  | cueCount (count : Nat)
  | cue (reading : CueReading)
  | armed (grains : Nat) (next : NextPtr)
  | goFired (cue : Nat)
  | goPending
  | jumped (outcome : JumpOutcome) (grains : Option Nat)
  | pageLoaded (inserted : Bool) (glyphs : Nat)
  | glyphs (inUse : Nat)
  | edit (standing : EditStanding) (clipped : List (Fin 4))
  | dark (answer : DarkAnswer)
  | lifted (issued : Bool)
  | refractory (ms : Nat)
  | slot (reading : SlotReading)
  | started
deriving DecidableEq, Repr

/-- An entry of the reply path: its kind, whether it answers a taken request (else it is a FULL answer),
its status code and its reply body. -/
structure Reply where
  kind : Byte
  taken : Bool
  status : Status
  body : ReplyBody
deriving DecidableEq, Repr

/-- The record in transmission (R168, R169). -/
inductive Sending where
  | reply (r : Reply) (statusWord : BitVec 16)
  | notice (n : Notice)
deriving DecidableEq, Repr

/-- A sticky flag and its mark (R170). -/
structure Sticky where
  set : Bool
  reported : Bool
deriving DecidableEq, Repr

/-- The Control Port. -/
structure ControlPort where
  receiver : CtlReceiver
  requests : List Record
  replies : List Reply
  sending : Option Sending
  notices : List Notice
  lineError : Sticky
  noticesDropped : Sticky
  showError : Sticky
  restartTaken : Bool
  rate : Nat
deriving DecidableEq, Repr

/-- A reset period (R176): its kind and cause, and what still holds it. -/
structure ResetPeriod where
  showSafe : Bool
  cause : ResetCause
  power : Bool
  line : Bool
  restart : Option ShowTime
deriving DecidableEq, Repr

/-- The reset unit: the RESET line, the period under way, and the reset cause (R179). -/
structure ResetUnit where
  line : Bool
  period : Option ResetPeriod
  cause : ResetCause
  showSafe : Bool
deriving DecidableEq, Repr

/-! ### The whole -/

/-- The PT-460. -/
structure State where
  /-- the commands that are waiting, first in, first out (the model's own) -/
  pending : List Instr
  showClock : ShowTime
  /-- free values used so far (the model's own) -/
  freeCount : Nat
  params : Params
  meter : List MeterEntry
  tracker : Tracker
  cues : List Cue
  sched : Scheduler
  reports : List CommitReport
  pages : List Page
  screens : Four Screen
  groupHold : Bool
  change : Option Change
  bus : PanelBus
  own : Ownership
  mirror : Mirror
  listener : Listener
  lineTest : LineTest
  survey : Survey
  port : ControlPort
  resetUnit : ResetUnit
deriving DecidableEq, Repr

/-- The faults: none. Every request is answered by a status code (R164) and every event has an effect or
none; the spec lets no command stop the part. -/
inductive Fault where
deriving DecidableEq, Repr

/-- The refusals. -/
inductive Refusal where
  /-- Raised by a command whose meaning is not written yet, by its mnemonic: safe, the model stops. -/
  | notModelled (mnemonic : String)
deriving DecidableEq, Repr

/-! ### Reset values -/

/-- The default of every parameter (10, section 10.8). -/
def Params.defaults : Params :=
  { sweepPeriod := 20, beatSource := .line, followGain := 6, lossBeats := 3, defaultLead := 300
    defaultDwell := 1500, tileLatency := 0, graceSweeps := 3, partialPolicy := .showTorn
    quietDelay := 50, busRequest := true, busHold := false, commitHold := true
    divergenceSweeps := 10, shadowFollow := false, positionReport := 0, velocityFactor := 66 }

/-- The tracker after a full reset (R21). -/
def Tracker.fresh : Tracker :=
  { mode := .stopped, confirmed := 0, tc := 0, period := 500000, ppb := 1, pendingPpb := none
    pulseCounter := 0, lossOpen := false }

/-- The scheduler after a full reset (R62). -/
def Scheduler.fresh : Scheduler :=
  { mode := .idle, next := .absent, live := { cue := none, sweep := 0, trigger := none }, dwell := 0
    noRise := false, follow := none, pendingGo := none, history := [], blackout := false }

/-- A screen after a full reset (R84, R106). -/
def Screen.fresh : Screen :=
  { setup := none, cueSource := .blank none, override := none
    live := { source := .blank none, found := false }, pendingShown := none, liveTag := 0
    tagCounter := 0, edit := none, restore := false, reissue := false, initialBlank := false
    kept := [], partialMark := false }

/-- The as-shown entry of a disabled screen (R88). -/
def AsShown.off : AsShown :=
  { instr := .none, liveTag := 0, tagCounter := 0, kind := .off, cue := none, page := none
    partialMark := false }

/-- A tile-table entry after a full reset (R106). -/
def Tile.fresh (address : Nat) : Tile :=
  { address := address, state := .unknown, lastTag := none, repairDue := false, repairTag := none
    heldTags := [], capacity := none, presence := .unknown }

/-- The tile table after a full reset: addresses 1 to 16. -/
def freshTiles : List Tile := (List.range 16).map (fun k => Tile.fresh (k + 1))

/-- The controller after a full reset (R106, R120), the sweep timer given. -/
def PanelBus.fresh (timer : Option SweepTimer) : PanelBus :=
  { timer := timer, sweepNumber := 0, controllerDue := [], schedulerDue := [], ownershipDue := []
    interval := none, window := none, link := .active, quietCount := 0, sinceMark := 0, sinceWake := 0
    tiles := freshTiles, pollPosition := 1, lastShown := none, busOut := none }

/-- The emptied mirror (R138; the values of what no frame has filled are log 21's). -/
def Mirror.fresh : Mirror :=
  { current := false, number := 0, link := .active, tracker := .stopped, grains := none, tempo := 0
    screens := Four.replicate AsShown.off, silence := 0, silent := false, divergence := 0
    divergenceOpen := false }

/-- The show-control receiver in HUNT. -/
def ShowReceiver.fresh : ShowReceiver := { phase := .hunt, length := 0, bytes := [], lastByte := 0 }

/-- A disabled slot (R151). -/
def Slot.fresh : Slot := { setup := none, latch := false, refractoryEnd := none }

/-- The line test unit after a full reset (R157). -/
def LineTest.fresh : LineTest := { started := none, pulses := 0, reflections := [], last := none }

/-- The survey after a full reset (R161; next address, turn and found are log 22's). -/
def Survey.fresh : Survey :=
  { running := false, nextAddress := 1, turn := .survey, found := List.replicate 16 .notPolled }

/-- The record receiver in HUNT. -/
def CtlReceiver.fresh : CtlReceiver := { phase := .hunt, length := 0, bytes := [], lastByte := 0 }

/-- A clear sticky flag. -/
def Sticky.clear : Sticky := { set := false, reported := false }

/-- The part right after a power-on reset whose period has ended with GRANT, PEER_DRIVE and RESET low and
the RATE strap at its slower rate (logs 4, 5, 13): the HELLO of the period waits to be sent (R179). -/
def State.reset : State :=
  { pending := [], showClock := 0, freeCount := 0, params := Params.defaults, meter := []
    tracker := Tracker.fresh, cues := [], sched := Scheduler.fresh, reports := [], pages := []
    screens := Four.replicate Screen.fresh, groupHold := false, change := none
    bus := PanelBus.fresh (some { start := 0, length := 20000 })
    own := { state := .shadow, drive := false, request := true, grant := false, peerDrive := false
             takeover := false, heldChange := false, contention := 0, bothDriving := false
             posFollow := false }
    mirror := Mirror.fresh
    listener := { receiver := ShowReceiver.fresh, slots := Four.replicate Slot.fresh }
    lineTest := LineTest.fresh, survey := Survey.fresh
    port := { receiver := CtlReceiver.fresh, requests := [], replies := [], sending := none
              notices := [.hello .power false Config.revision Config.slowRate 0]
              lineError := Sticky.clear, noticesDropped := Sticky.clear, showError := Sticky.clear
              restartTaken := false, rate := Config.slowRate }
    resetUnit := { line := false, period := none, cause := .power, showSafe := false } }

end Sys2Proof.Machine
end

