-- ==== Sys2Proof/Machine/Formats.lean ====
section
/-!
DEFINITION. Byte layouts (chapter 11): the check function, the field codes, the bodies of the requests the
chapter lays out (read and written), the panel bus frames (read and written), and the records the part
sends whose layout the chapter gives.
-/

namespace Sys2Proof.Machine

/-! ### The check function (R180) -/

/-- One shift of the check register. -/
def crcShift (r : Check) : Check :=
  if r.getMsbD 0 then (r <<< 1) ^^^ 0x1021 else r <<< 1

/-- One byte taken into the check register. -/
def crcByte (r : Check) (b : Byte) : Check :=
  let r0 := r ^^^ ((b.setWidth 16) <<< 8)
  crcShift (crcShift (crcShift (crcShift (crcShift (crcShift (crcShift (crcShift r0)))))))

/-- The check over a list of bytes: the register starts at 0xFFFF (R180). -/
def crc (bytes : List Byte) : Check := bytes.foldl crcByte 0xFFFF

/-! ### Fields, most significant byte first -/

/-- The low byte of a number. -/
def byteOf (n : Nat) : Byte := BitVec.ofNat 8 n

/-- A two-byte field. -/
def be16 (n : Nat) : List Byte := [byteOf (n / 256), byteOf n]

/-- A four-byte field. -/
def be32 (n : Nat) : List Byte :=
  [byteOf (n / 16777216), byteOf (n / 65536), byteOf (n / 256), byteOf n]

/-- A check as it is sent, high byte first. -/
def checkBytes (c : Check) : List Byte := be16 c.toNat

/-- A flag as 1 or 0. -/
def bit (b : Bool) : Nat := if b then 1 else 0

/-- The number a list of bytes spells, most significant first. -/
def natOf (bytes : List Byte) : Nat := bytes.foldl (fun n b => n * 256 + b.toNat) 0

/-- Read a one-byte field. -/
def u8 : List Byte → Option (Nat × List Byte)
  | a :: rest => some (a.toNat, rest)
  | [] => none

/-- Read a two-byte field. -/
def u16 : List Byte → Option (Nat × List Byte)
  | a :: b :: rest => some (a.toNat * 256 + b.toNat, rest)
  | _ => none

/-- Read a four-byte field. -/
def u32 : List Byte → Option (Nat × List Byte)
  | a :: b :: c :: d :: rest =>
    some (((a.toNat * 256 + b.toNat) * 256 + c.toNat) * 256 + d.toNat, rest)
  | _ => none

/-- Read a bar:beat:grain of 4 bytes. -/
def readBbg (bytes : List Byte) : Option (Bbg × List Byte) := do
  let (bar, bytes) ← u16 bytes
  let (beat, bytes) ← u8 bytes
  let (grain, bytes) ← u8 bytes
  some ({ bar := bar, beat := beat, grain := grain }, bytes)

/-- A bar:beat:grain of 4 bytes. -/
def bbgBytes (p : Bbg) : List Byte := be16 p.bar ++ [byteOf p.beat, byteOf p.grain]

/-- Read a field that is present only when its presence bit is set. -/
def readIf {α : Type} (present : Bool) (read : List Byte → Option (α × List Byte)) (bytes : List Byte) :
    Option (Option α × List Byte) :=
  match present with
  | true =>
    match read bytes with
    | some (a, rest) => some (some a, rest)
    | none => none
  | false => some (none, bytes)

/-- The bytes of a field that may be absent. -/
def optBytes {α : Type} (write : α → List Byte) : Option α → List Byte
  | some a => write a
  | none => []

/-- Read a fixed number of items. -/
def readMany {α : Type} (read : List Byte → Option (α × List Byte)) :
    Nat → List Byte → Option (List α × List Byte)
  | 0, bytes => some ([], bytes)
  | n + 1, bytes =>
    match read bytes with
    | some (a, rest) =>
      match readMany read n rest with
      | some (as, rest) => some (a :: as, rest)
      | none => none
    | none => none

/-! ### Field codes (R181) -/

def trackerCode : TrackerMode → Nat
  | .stopped => 0 | .free => 1 | .following => 2 | .waiting => 3 | .lost => 4

def trackerOf : Nat → Option TrackerMode
  | 0 => some .stopped | 1 => some .free | 2 => some .following | 3 => some .waiting | 4 => some .lost
  | _ => none

def schedCode : SchedMode → Nat
  | .idle => 0 | .running => 1 | .held => 2

def ownerCode : OwnerState → Nat
  | .shadow => 0 | .granted => 1 | .driving => 2 | .releasing => 3

def linkCode : LinkState → Nat
  | .active => 0 | .quiet => 1 | .waking => 2

def cueKindCode : CueKind → Nat
  | .timed => 0 | .manual => 1 | .stage => 2 | .follow => 3

def cueKindOf : Nat → Option CueKind
  | 0 => some .timed | 1 => some .manual | 2 => some .stage | 3 => some .follow
  | _ => none

def triggerCode : Option Trigger → Nat
  | some .timed => 0 | some .follow => 1 | some .stage => 2 | some .go => 3 | some .jump => 4
  | some .back => 5 | some .adopt => 6 | none => 0xFF

def statusCode : Status → Nat
  | .ok => 0 | .adjusted => 1 | .refusedState => 2 | .badArgument => 3 | .notFound => 4 | .inUse => 5
  | .storeFull => 6 | .busy => 7 | .full => 8 | .unknownKind => 9

def kindCode : SourceKind → Nat
  | .off => 0 | .blank => 1 | .cue => 2 | .override => 3 | .dark => 4

def kindOf : Nat → Option SourceKind
  | 0 => some .off | 1 => some .blank | 2 => some .cue | 3 => some .override | 4 => some .dark
  | _ => none

def markInstrCode : MarkInstr → Nat
  | .none => 0 | .swap => 1 | .blank => 2

def markInstrOf : Nat → Option MarkInstr
  | 0 => some .none | 1 => some .swap | 2 => some .blank
  | _ => none

def causeCode : ResetCause → Nat
  | .power => 0 | .lineFull => 1 | .lineKeep => 2 | .request => 3

def tileStateCode : TileState → Nat
  | .unknown => 0 | .inService => 1 | .out => 2

def presenceCode : Presence → Nat
  | .unknown => 0 | .present => 1 | .absent => 2

def testAbortCode : TestAbort → Nat
  | .grantFall => 0 | .peerDrive => 1 | .driveStart => 2 | .reset => 3

/-- A set of screens or lanes 0 to 3 as bits 0 to 3. -/
def setBits (members : List Nat) : Nat :=
  bit (members.contains 0) + 2 * bit (members.contains 1) + 4 * bit (members.contains 2)
    + 8 * bit (members.contains 3)

/-! ### The cue record and the page record (R181) -/

/-- Read a (lane, page id) pair. -/
def readPageRef (bytes : List Byte) : Option (PageRef × List Byte) := do
  let (lane, bytes) ← u8 bytes
  let (page, bytes) ← u16 bytes
  some ({ lane := lane, page := page }, bytes)

/-- Read the body of LOAD_CUE: exactly the form of chapter 11, with no undefined presence or flag bit and
a listed cue kind. -/
def parseCue (bytes : List Byte) : Option CueRecord := do
  let (number, bytes) ← u16 bytes
  let (kind, bytes) ← u8 bytes
  let kind ← cueKindOf kind
  let (presence, bytes) ← u8 bytes
  let (flags, bytes) ← u8 bytes
  if presence ≥ 32 ∨ flags ≥ 4 then none else
  let (anchor, bytes) ← readIf (presence.testBit 0) readBbg bytes
  let (slot, bytes) ← readIf (presence.testBit 1) u8 bytes
  let (delayMs, bytes) ← readIf (presence.testBit 2) u16 bytes
  let (leadMs, bytes) ← readIf (presence.testBit 3) u16 bytes
  let (dwellMs, bytes) ← readIf (presence.testBit 4) u16 bytes
  let (count, bytes) ← u8 bytes
  let (pages, bytes) ← readMany readPageRef count bytes
  if bytes.isEmpty then
    some { number := number, kind := kind, anchor := anchor, slot := slot, delayMs := delayMs
           leadMs := leadMs, dwellMs := dwellMs, essential := flags.testBit 0, cut := flags.testBit 1
           pages := pages }
  else none

/-- The cue record's presence byte. -/
def cuePresence (c : CueRecord) : Nat :=
  bit c.anchor.isSome + 2 * bit c.slot.isSome + 4 * bit c.delayMs.isSome + 8 * bit c.leadMs.isSome
    + 16 * bit c.dwellMs.isSome

/-- The bytes of a cue record: the body of LOAD_CUE. -/
def cueBytes (c : CueRecord) : List Byte :=
  be16 c.number ++ [byteOf (cueKindCode c.kind), byteOf (cuePresence c),
      byteOf (bit c.essential + 2 * bit c.cut)]
    ++ optBytes bbgBytes c.anchor ++ optBytes (fun n => [byteOf n]) c.slot ++ optBytes be16 c.delayMs
    ++ optBytes be16 c.leadMs ++ optBytes be16 c.dwellMs ++ [byteOf c.pages.length]
    ++ c.pages.flatMap (fun r => byteOf r.lane :: be16 r.page)

/-- Read a glyph code. -/
def readGlyph : List Byte → Option (Glyph × List Byte)
  | a :: b :: rest => some (a ++ b, rest)
  | _ => none

/-- The bytes of a glyph code. -/
def glyphBytes (g : Glyph) : List Byte := [g.extractLsb' 8 8, g.extractLsb' 0 8]

/-- Read a line of a page record: its length, then its codes. -/
def readLine (bytes : List Byte) : Option (List Glyph × List Byte) := do
  let (length, bytes) ← u8 bytes
  readMany readGlyph length bytes

/-- Read the body of LOAD_PAGE. -/
def parsePage (bytes : List Byte) : Option Page := do
  let (id, bytes) ← u16 bytes
  let (lane, bytes) ← u8 bytes
  let (count, bytes) ← u8 bytes
  let (lines, bytes) ← readMany readLine count bytes
  if bytes.isEmpty then some { id := id, lane := lane, lines := lines } else none

/-- The bytes of a page record: the body of LOAD_PAGE. -/
def pageBytes (p : Page) : List Byte :=
  be16 p.id ++ [byteOf p.lane, byteOf p.lines.length]
    ++ p.lines.flatMap (fun l => byteOf l.length :: l.flatMap glyphBytes)

/-! ### Panel bus frames (11, section 11.4) -/

/-- A panel bus frame: start, type, address, body length, body, check over all but the start. -/
def busEnvelope (type address : Nat) (body : List Byte) : List Byte :=
  let covered := [byteOf type, byteOf address] ++ be16 body.length ++ body
  0x7E :: covered ++ checkBytes (crc covered)

/-- Read a panel bus frame whose check is good: its type, address and body. -/
def readEnvelope (bytes : List Byte) : Option (Nat × Nat × List Byte) :=
  match bytes with
  | start :: type :: address :: hi :: lo :: rest =>
    let length := hi.toNat * 256 + lo.toNat
    let body := rest.take length
    let covered := type :: address :: hi :: lo :: body
    if start = 0x7E ∧ rest.length = length + 2 ∧ rest.drop length = checkBytes (crc covered) then
      some (type.toNat, address.toNat, body)
    else none
  | _ => none

/-- A screen entry of a sweep frame. -/
def asShownBytes (e : AsShown) : List Byte :=
  [byteOf (markInstrCode e.instr), byteOf e.liveTag, byteOf e.tagCounter, byteOf (kindCode e.kind)]
    ++ be16 (e.cue.getD 0) ++ be16 (e.page.getD 0) ++ [byteOf (bit e.partialMark)]

/-- An absent cue number or page id is sent as 0 (R181). -/
def nonZero (n : Nat) : Option Nat := if n = 0 then none else some n

/-- Read a screen entry of a sweep frame. -/
def readAsShown (bytes : List Byte) : Option (AsShown × List Byte) := do
  let (instr, bytes) ← u8 bytes
  let instr ← markInstrOf instr
  let (liveTag, bytes) ← u8 bytes
  let (tagCounter, bytes) ← u8 bytes
  let (kind, bytes) ← u8 bytes
  let kind ← kindOf kind
  let (cue, bytes) ← u16 bytes
  let (page, bytes) ← u16 bytes
  let (mark, bytes) ← u8 bytes
  if mark ≥ 2 then none else
  some ({ instr := instr, liveTag := liveTag, tagCounter := tagCounter, kind := kind
          cue := nonZero cue, page := nonZero page, partialMark := mark.testBit 0 }, bytes)

/-- A tile-map entry: the screen, or 0xFF for none. -/
def mapByte : Option (Fin 4) → Byte
  | some i => byteOf i.val
  | none => 0xFF

/-- Read a tile-map entry. -/
def readMapByte : List Byte → Option (Option (Fin 4) × List Byte)
  | b :: rest =>
    if b = 0xFF then some (none, rest) else
    match fourth? b.toNat with
    | some i => some (some i, rest)
    | none => none
  | [] => none

/-- The body of a sweep frame, 62 bytes. -/
def sweepBody (f : SweepFrame) : List Byte :=
  be16 f.number.toNat ++ [byteOf (bit f.quiet + 2 * bit f.wake + 4 * bit f.takeover),
      byteOf (trackerCode f.tracker)]
    ++ be32 (f.grains.getD 0) ++ be16 f.tempo ++ f.tileMap.map mapByte
    ++ asShownBytes f.screens.s0 ++ asShownBytes f.screens.s1 ++ asShownBytes f.screens.s2
    ++ asShownBytes f.screens.s3

/-- Read the body of a sweep frame. -/
def readSweepBody (bytes : List Byte) : Option SweepFrame := do
  let (number, bytes) ← u16 bytes
  let (flags, bytes) ← u8 bytes
  if flags ≥ 8 then none else
  let (tracker, bytes) ← u8 bytes
  let tracker ← trackerOf tracker
  let (grains, bytes) ← u32 bytes
  let (tempo, bytes) ← u16 bytes
  let (tileMap, bytes) ← readMany readMapByte 16 bytes
  let (e0, bytes) ← readAsShown bytes
  let (e1, bytes) ← readAsShown bytes
  let (e2, bytes) ← readAsShown bytes
  let (e3, bytes) ← readAsShown bytes
  if bytes.isEmpty then
    some { number := BitVec.ofNat 16 number, quiet := flags.testBit 0, wake := flags.testBit 1
           takeover := flags.testBit 2, tracker := tracker
           grains := if tracker = .stopped then none else some grains, tempo := tempo
           tileMap := tileMap, screens := { s0 := e0, s1 := e1, s2 := e2, s3 := e3 } }
  else none

/-- The bytes the part puts on the pair for a frame. -/
def BusFrame.bytes : BusFrame → List Byte
  | .sweep f => busEnvelope 0x01 0 (sweepBody f)
  | .content tile tag cpt codes =>
    busEnvelope 0x02 tile ([byteOf tag, byteOf cpt] ++ codes.flatMap glyphBytes)
  | .poll tile => busEnvelope 0x03 tile []

/-- Read a sweep frame from the bus. -/
def parseSweep (bytes : List Byte) : Option SweepFrame :=
  match readEnvelope bytes with
  | some (0x01, 0, body) => readSweepBody body
  | _ => none

/-- Read a tile's acknowledgement: the tile and the tag it holds as pending. -/
def parseAck (bytes : List Byte) : Option (Nat × Nat) :=
  match readEnvelope bytes with
  | some (0x82, address, [tag]) => some (address, tag.toNat)
  | _ => none

/-- What a tile's answer to a poll reports. -/
structure PollAnswer where
  tile : Nat
  liveTag : Nat
  pendingTag : Nat
  capacity : Nat
  status : Nat
deriving DecidableEq, Repr

/-- Read a tile's answer to a poll. -/
def parsePollReply (bytes : List Byte) : Option PollAnswer :=
  match readEnvelope bytes with
  | some (0x83, address, [liveTag, pendingTag, capacity, status]) =>
    some { tile := address, liveTag := liveTag.toNat, pendingTag := pendingTag.toNat
           capacity := capacity.toNat, status := status.toNat }
  | _ => none

/-- The bytes of a frame on the bus at 5 µs each: the frame's time in µs (11, section 11.4). -/
def BusFrame.micros (f : BusFrame) : Nat := 5 * f.bytes.length

/-! ### Control records the part sends (11, section 11.3) -/

/-- A control record: sync, length of kind and body, kind, body, check over all but the sync. -/
def recordBytes (kind : Byte) (body : List Byte) : List Byte :=
  let covered := be16 (body.length + 1) ++ kind :: body
  0xC3 :: covered ++ checkBytes (crc covered)

/-- A full position field of 8 bytes, or zeros when absent. -/
def positionBytes : Option FullPos → List Byte
  | some p => be32 p.grains ++ bbgBytes p.bbg
  | none => List.replicate 8 0

/-- The result code, delay and distance of a line-test result. -/
def testOutcomeBytes : TestOutcome → List Byte
  | .normal => byteOf 0 :: be16 0 ++ be16 0
  | .fault .opened delay distance => byteOf 1 :: be16 delay ++ be16 distance
  | .fault .shorted delay distance => byteOf 2 :: be16 delay ++ be16 distance
  | .fault .mismatch delay distance => byteOf 3 :: be16 delay ++ be16 distance
  | .aborted _ => byteOf 4 :: be16 0 ++ be16 0

/-- The ten bytes of a last line-test result, 0xFF for none. -/
def testBytes : Option TestResult → List Byte
  | none => 0xFF :: List.replicate 9 0
  | some r =>
    testOutcomeBytes r.outcome ++ [byteOf r.reflected, byteOf r.velocityFactor]
      ++ be16 r.sweep.toNat
      ++ [byteOf (match r.outcome with | .aborted cause => testAbortCode cause | _ => 0)]

/-- One tile entry of the STATUS reply. -/
def tileReportBytes (t : TileReport) : List Byte :=
  [mapByte t.screen, byteOf (tileStateCode t.state + 4 * presenceCode t.presence),
    byteOf (t.capacity.getD 0)]

/-- The STATUS reply body of 99 bytes. -/
def statusBytes (r : StatusReport) : List Byte :=
  [byteOf (bit r.position.isSome + 2 * bit r.live.cue.isSome
      + 4 * bit (match r.next with | .cue _ => true | _ => false)
      + 8 * bit (match r.next with | .endOfList => true | _ => false)
      + 16 * bit r.mirrorCurrent + 32 * bit r.resetShowSafe + 64 * bit r.lineTest.isSome),
    byteOf (trackerCode r.trackerMode)]
    ++ positionBytes r.position ++ be16 r.tempo ++ [byteOf (schedCode r.schedMode)]
    ++ be16 (r.live.cue.getD 0) ++ be16 r.live.sweep.toNat ++ [byteOf (triggerCode r.live.trigger)]
    ++ be16 (match r.next with | .cue n => n | _ => 0) ++ [byteOf r.history, byteOf (ownerCode r.owner)]
    ++ be16 r.peerNumber.toNat
    ++ [byteOf (linkCode r.peerLink),
        byteOf (match r.link with | some l => linkCode l | none => bit r.peerQuiet),
        byteOf (bit r.blackout + 2 * bit r.inFlight)]
    ++ be16 r.sweep.toNat ++ r.tiles.flatMap tileReportBytes ++ be16 r.cues ++ [byteOf r.meterEntries]
    ++ be16 r.pages ++ be32 r.glyphs
    ++ [byteOf r.requests, byteOf r.notices, byteOf (causeCode r.resetCause)] ++ testBytes r.lineTest

/-- The READ_CUE reply body. -/
def cueReadingBytes (r : CueReading) : List Byte :=
  cueBytes r.record ++ optBytes be32 r.anchorGrains
    ++ [byteOf (bit r.live + 2 * bit r.inFlight + 4 * bit r.next), byteOf r.history] ++ be16 r.count

/-- The CUE_LIVE notice body, 9 or 17 bytes. -/
def cueLiveBytes (r : CommitReport) : List Byte :=
  be16 r.cue ++ be16 r.sweep.toNat
    ++ [byteOf (triggerCode (some r.trigger)),
        byteOf (bit r.dark + 2 * bit r.shadow + 4 * bit r.position.isSome),
        byteOf (setBits r.clipped), byteOf (setBits r.missing),
        byteOf (setBits (r.partialScreens.map (fun i => i.val)))]
    ++ (match r.position with | some _ => positionBytes r.position | none => [])

/-- The bytes of a reply body that chapter 11 lays out. -/
def ReplyBody.bytes? : ReplyBody → Option (List Byte)
  | .empty => some []
  | .status r => some (statusBytes r)
  | .cue r => some (cueReadingBytes r)
  | _ => none

/-- The kind code of a notice: 0x60 to 0x71 in the order of 11, section 11.3. -/
def Notice.kind : Notice → Byte
  | .hello .. => 0x60 | .position .. => 0x61 | .beatLost .. => 0x62 | .beatRegained .. => 0x63
  | .cueLive .. => 0x64 | .cueSkipped .. => 0x65 | .goLapsed .. => 0x66 | .tileOut .. => 0x67
  | .tileIn .. => 0x68 | .linkState .. => 0x69 | .ownership .. => 0x6A | .contention .. => 0x6B
  | .peerSilent .. => 0x6C | .divergence .. => 0x6D | .positionAdopted .. => 0x6E
  | .listenerMatch .. => 0x6F | .lineTestDone .. => 0x70 | .surveyDone .. => 0x71

/-- The kind code of a record in transmission. -/
def Sending.kind : Sending → Byte
  | .reply r _ => r.kind
  | .notice n => n.kind

/-- The bytes of a notice body that chapter 11 lays out: that of CUE_LIVE. -/
def Notice.bytes? : Notice → Option (List Byte)
  | .cueLive report => some (cueLiveBytes report)
  | .hello .. | .position .. | .beatLost .. | .beatRegained .. | .cueSkipped .. | .goLapsed .. | .tileOut ..
  | .tileIn .. | .linkState .. | .ownership .. | .contention .. | .peerSilent .. | .divergence ..
  | .positionAdopted .. | .listenerMatch .. | .lineTestDone .. | .surveyDone .. => none

/-- The bytes on CTL_TXD of a record in transmission, where chapter 11 gives its layout. -/
def Sending.bytes? : Sending → Option (List Byte)
  | .reply r word =>
    match r.body.bytes? with
    | some body => some (recordBytes r.kind (byteOf (statusCode r.status) :: be16 word.toNat ++ body))
    | none => none
  | .notice n => n.bytes?.map (recordBytes n.kind)

end Sys2Proof.Machine
end

