-- ==== Sys2Proof/Machine/Ops.lean ====
section
/-!
DEFINITION. Named operations every block uses: time, the notice queue, the cue list, the tile table and
the screen map as they are looked up, and the updates of one screen or one tile.
-/

namespace Sys2Proof.Machine

/-! ### Time -/

/-- The interval between two readings of the show clock, modulo 2^32 (00, Conventions). -/
def elapsed (now start : ShowTime) : Nat := (now - start).toNat

/-- Whether a time on the show clock has come: no interval the part measures exceeds 2^31 µs. -/
def reached (now due : ShowTime) : Bool := decide ((now - due).toNat < 2147483648)

/-- The show clock a number of µs later. -/
def later (t : ShowTime) (us : Nat) : ShowTime := t + BitVec.ofNat 32 us

/-- A division rounded up. -/
def ceilDiv (n d : Nat) : Nat := (n + d - 1) / d

/-- A division rounded to the nearest integer, a tie rounded up. -/
def roundDiv (n d : Nat) : Nat := (2 * n + d) / (2 * d)

/-! ### Reset periods -/

/-- A reset period is under way (R176). -/
def State.inReset (s : State) : Bool := s.resetUnit.period.isSome

/-- The reset period of a full reset is under way. -/
def State.inFullReset (s : State) : Bool :=
  match s.resetUnit.period with
  | some p => !p.showSafe
  | none => false

/-! ### Sticky flags and the notice queue -/

/-- An event of a sticky flag's kind sets the flag and removes its mark (R170). -/
def Sticky.raise : Sticky := { set := true, reported := false }

/-- POSITION notices, of which the queue holds at most one (R171). -/
def Notice.isPosition : Notice → Bool
  | .position _ _ _ => true
  | _ => false

/-- The notice queue with a notice posted, and whether an older one was dropped for it (R171). -/
def enqueue (queue : List Notice) (n : Notice) : List Notice × Bool :=
  if n.isPosition && queue.any Notice.isPosition then
    (queue.map (fun m => if m.isPosition then n else m), false)
  else if queue.length < Config.noticeDepth then (queue ++ [n], false)
  else if queue.any Notice.isPosition then (queue.eraseP Notice.isPosition ++ [n], false)
  else (queue.tail ++ [n], true)

/-- A notice posted: discarded in a reset period, else queued (R171). -/
def State.post (s : State) (n : Notice) : State :=
  if s.inReset then s else
  let q := enqueue s.port.notices n
  { s with port := { s.port with
      notices := q.1
      noticesDropped := if q.2 then Sticky.raise else s.port.noticesDropped } }

/-- Notices posted one after another. -/
def State.postAll (s : State) (ns : List Notice) : State := ns.foldl State.post s

/-- READY: high while the request queue holds at most two records and no reset period is under way
(R166). -/
def State.ready (s : State) : Bool := decide (s.port.requests.length ≤ 2) && !s.inReset

/-! ### The cue list -/

/-- The cue of a number. -/
def State.cue? (s : State) (n : Nat) : Option Cue := s.cues.find? (fun c => c.record.number == n)

/-- The pointer to the first of some cues. -/
def pointTo : List Cue → NextPtr
  | c :: _ => .cue c.record.number
  | [] => .endOfList

/-- The pointer to the cue following number `n` (R40). -/
def State.following (s : State) (n : Nat) : NextPtr :=
  pointTo (s.cues.filter (fun c => decide (n < c.record.number)))

/-- The cue the next pointer names. -/
def State.nextCue? (s : State) : Option Cue :=
  match s.sched.next with
  | .cue n => s.cue? n
  | _ => none

/-- Whether a pointer names a FOLLOW cue of the list (R44). -/
def State.namesFollow (s : State) (p : NextPtr) : Bool :=
  match p with
  | .cue n => (match s.cue? n with | some c => decide (c.record.kind = .follow) | none => false)
  | _ => false

/-- A FOLLOW timer started from 0 if the pointer names a FOLLOW cue, and stopped otherwise (R44). -/
def State.followFor (s : State) (p : NextPtr) : Option FollowTimer :=
  if s.namesFollow p then some { count := 0, fresh := false } else none

/-- A change is in flight for the scheduler: the controller holds one, or the commit report of one has not
been taken yet (R46, log 9). -/
def State.flight (s : State) : Bool := s.change.isSome || !s.reports.isEmpty

/-! ### Screens and tiles -/

/-- One screen updated. -/
def State.updScreen (s : State) (i : Fin 4) (f : Screen → Screen) : State :=
  { s with screens := s.screens.set i (f (s.screens.get i)) }

/-- Every screen updated. -/
def State.updScreens (s : State) (f : Fin 4 → Screen → Screen) : State :=
  { s with screens := s.screens.mapIdx f }

/-- The enabled screens, ascending. -/
def State.enabled (s : State) : List (Fin 4) :=
  fourNumbers.filter (fun i => (s.screens.get i).setup.isSome)

/-- The tile addresses of a screen, none when it is disabled. -/
def Screen.tiles (c : Screen) : List Nat :=
  match c.setup with
  | some setup => setup.tiles
  | none => []

/-- The screen whose tile list holds an address (R69, R103). -/
def State.screenOf (s : State) (address : Nat) : Option (Fin 4) :=
  fourNumbers.find? (fun i => (s.screens.get i).tiles.contains address)

/-- The tile-table entry of an address. -/
def State.tile? (s : State) (address : Nat) : Option Tile :=
  s.bus.tiles.find? (fun t => t.address == address)

/-- Every tile-table entry updated. -/
def State.updTiles (s : State) (f : Tile → Tile) : State :=
  { s with bus := { s.bus with tiles := s.bus.tiles.map f } }

/-- One tile-table entry updated. -/
def State.updTile (s : State) (address : Nat) (f : Tile → Tile) : State :=
  s.updTiles (fun t => if t.address = address then f t else t)

/-- Whether the table holds an address as OUT. -/
def State.isOut (s : State) (address : Nat) : Bool :=
  s.bus.tiles.any (fun t => t.address == address && decide (t.state = .out))

/-- Whether the part drives the panel bus: DRIVING or RELEASING (R122). -/
def State.drives (s : State) : Bool :=
  match s.own.state with
  | .driving => true
  | .releasing => true
  | .shadow => false
  | .granted => false

/-- Whether the link counts as quiet (R48): its own link while the part drives, else the mirror's. -/
def State.linkQuiet (s : State) : Bool :=
  if s.drives then decide (s.bus.link ≠ .active) else decide (s.mirror.link ≠ .active)

/-- The show clock one µs on: what a step with no command waiting does (log 1). -/
def State.tick (s : State) : State := { s with showClock := s.showClock + 1 }

end Sys2Proof.Machine
end

