-- ==== Sys2Proof/Machine/Position.lean ====
section
/-!
DEFINITION. Score Position and Tempo (01): the meter map's conversions, the reading of the tracker, pulses,
SYNC, tempo and adoption, as operations the commands share.
-/

namespace Sys2Proof.Machine

/-! ### The meter map -/

/-- The last grain of bar 9,999; none while the map is empty (R3). -/
def endGrain (meter : List MeterEntry) : Option Nat :=
  match meter.getLast? with
  | some e => some (e.startGrain + (Config.lastBar - e.firstBar + 1) * e.beats * 192 - 1)
  | none => none

/-- A position limited to the end grain. -/
def limitTo (last : Option Nat) (g : Nat) : Nat :=
  match last with
  | some m => min g m
  | none => g

/-- The start grain of an entry appended after another (R3). -/
def startAfter (e : MeterEntry) (firstBar : Nat) : Nat :=
  e.startGrain + (firstBar - e.firstBar) * e.beats * 192

/-- The map with entries appended, their start grains fixed (R3). -/
def appendMeter (meter : List MeterEntry) : List MeterPair → List MeterEntry
  | [] => meter
  | p :: rest =>
    let start := match meter.getLast? with | some e => startAfter e p.firstBar | none => 0
    appendMeter (meter ++ [{ firstBar := p.firstBar, beats := p.beats, startGrain := start }]) rest

/-- bar:beat:grain to grains (R4); none when the conversion fails. -/
def toGrains (meter : List MeterEntry) (p : Bbg) : Option Nat :=
  match (meter.filter (fun e => decide (e.firstBar ≤ p.bar))).getLast? with
  | some e =>
    if 1 ≤ p.bar ∧ p.bar ≤ Config.lastBar ∧ 1 ≤ p.beat ∧ p.beat ≤ e.beats ∧ p.grain ≤ 191 then
      some (e.startGrain + (p.bar - e.firstBar) * e.beats * 192 + (p.beat - 1) * 192 + p.grain)
    else none
  | none => none

/-- Grains to bar:beat:grain (R5); none while the map is empty. -/
def toBbg (meter : List MeterEntry) (g : Nat) : Option Bbg :=
  match (meter.filter (fun e => decide (e.startGrain ≤ g))).getLast? with
  | some e =>
    let offset := g - e.startGrain
    let barLength := e.beats * 192
    let r := offset - offset / barLength * barLength
    let beat := r / 192 + 1
    some { bar := e.firstBar + offset / barLength, beat := beat, grain := r - (beat - 1) * 192 }
  | none => none

/-- A position field: grains with bar:beat:grain, absent when there is no position to convert (log 24). -/
def fullPos (meter : List MeterEntry) (g : Option Nat) : Option FullPos :=
  match g with
  | some g =>
    match toBbg meter g with
    | some p => some { grains := g, bbg := p }
    | none => none
  | none => none

/-! ### Reading the tracker -/

/-- The grains one pulse advances: 192 / PPB. -/
def stepOf (ppb : Nat) : Nat := 192 / ppb

/-- A position brought down to a multiple of the step. -/
def downTo (step g : Nat) : Nat := g / step * step

/-- A position brought up to a multiple of the step. -/
def upTo (step g : Nat) : Nat := ceilDiv g step * step

/-- Tempo in bpm×10 from a beat period, and a beat period from a tempo: the same rounding, a tie up
(R6, R18). -/
def tempoOf (period : Nat) : Nat := roundDiv Config.tempoScale period

/-- A tempo brought into 200 to 3,000 (R18). -/
def limitTempo (bpm10 : Nat) : Nat := max 200 (min bpm10 3000)

/-- The beat period of a tempo brought into range. -/
def periodOf (bpm10 : Nat) : Nat := roundDiv Config.tempoScale (limitTempo bpm10)

/-- The clamp time has passed: the extrapolation would reach C + step (R7). -/
def Tracker.clamped (tr : Tracker) (t : ShowTime) : Bool :=
  decide (stepOf tr.ppb * tr.period ≤ elapsed t tr.tc * 192)

/-- The state a reading at `t` reports: WAITING from the clamp time on, whether or not the clamp expiry has
been taken (R7). -/
def Tracker.modeAt (tr : Tracker) (t : ShowTime) : TrackerMode :=
  match tr.mode with
  | .following => if tr.clamped t then .waiting else .following
  | m => m

/-- The reported position at `t` (R6). -/
def Tracker.positionAt (tr : Tracker) (last : Option Nat) (t : ShowTime) : Option Nat :=
  match tr.mode with
  | .stopped => none
  | .free => some (limitTo last tr.confirmed)
  | .following =>
    some (limitTo last (tr.confirmed + min (elapsed t tr.tc * 192 / tr.period) (stepOf tr.ppb - 1)))
  | .waiting => some (limitTo last (tr.confirmed + stepOf tr.ppb - 1))
  | .lost => some (limitTo last (tr.confirmed + stepOf tr.ppb - 1))

/-- The reported tempo (R6). -/
def Tracker.tempo (tr : Tracker) : Nat := tempoOf tr.period

/-- The reported position as a reading of the whole part at time `t`. -/
def State.positionAt (s : State) (t : ShowTime) : Option Nat :=
  s.tracker.positionAt (endGrain s.meter) t

/-- The reported position with its bar:beat:grain. -/
def State.fullPositionAt (s : State) (t : ShowTime) : Option FullPos :=
  fullPos s.meter (s.positionAt t)

/-- The time of a boundary's reading of the tracker (R6, R47): the boundary's own time, or that of the last
pulse when it was taken after the boundary and before this reading (log 3). -/
def State.readingTime (s : State) (b : Boundary) : ShowTime :=
  if reached b.time s.tracker.tc then b.time else s.tracker.tc

/-- The loss monitor has expired (R8). -/
def Tracker.lossDue (tr : Tracker) (lossBeats : Nat) (t : ShowTime) : Bool :=
  decide (lossBeats * tr.period ≤ elapsed t tr.tc)

/-! ### Pulses -/

/-- A pending PPB taking effect outside a pulse: at ARM, SYNC and adoption (R15). -/
def Tracker.takePpb (tr : Tracker) : Tracker :=
  match tr.pendingPpb with
  | some q => { tr with ppb := q, pendingPpb := none, pulseCounter := 0 }
  | none => tr

/-- The PPB a SET_PARAM sets: pending when it differs from the one in effect (R15). -/
def Tracker.setPpb (tr : Tracker) (q : Nat) : Tracker :=
  { tr with pendingPpb := if q = tr.ppb then none else some q }

/-- The scaled interval I of a pulse at `t` (R9). -/
def Tracker.scaled (tr : Tracker) (t : ShowTime) : Nat :=
  elapsed t tr.tc * (match tr.pendingPpb with | some q => q | none => tr.ppb)

/-- The new beat period after an accepted pulse with scaled interval `i` (R13): a half rounds away from
zero, and the result is clamped. -/
def newPeriod (period gain i : Nat) : Nat :=
  let moved := if period ≤ i then period + ((i - period) * gain + 8) / 16
    else period - ((period - i) * gain + 8) / 16
  max Config.minPeriod (min moved Config.maxPeriod)

/-- A pulse taken with advance at `t` (R12, R15), the counter's part apart. -/
def Tracker.advance (tr : Tracker) (last : Option Nat) (t : ShowTime) : Tracker :=
  let moved : Tracker :=
    match tr.pendingPpb with
    | none => { tr with confirmed := tr.confirmed + stepOf tr.ppb }
    | some q =>
      let reported := match tr.positionAt last t with | some g => g | none => tr.confirmed
      { tr with confirmed := downTo (stepOf q) reported + stepOf q, ppb := q, pendingPpb := none
                pulseCounter := 0 }
  { moved with confirmed := limitTo last moved.confirmed, tc := t, mode := .following, lossOpen := false }

/-- The pulse counter after a pulse taken with advance, and whether a POSITION notice is posted (R16). -/
def Tracker.count (tr : Tracker) (positionReport : Nat) : Tracker × Bool :=
  if tr.confirmed % 192 = 0 ∧ positionReport ≠ 0 then
    if positionReport ≤ tr.pulseCounter + 1 then ({ tr with pulseCounter := 0 }, true)
    else ({ tr with pulseCounter := tr.pulseCounter + 1 }, false)
  else (tr, false)

/-- How a pulse at `t` is handled (R11). -/
def Tracker.classify (tr : Tracker) (t : ShowTime) : PulseOutcome :=
  match tr.mode with
  | .stopped => .ignored
  | .free => .marked
  | .lost => .regained
  | .following | .waiting =>
    if 2 * tr.scaled t < tr.period then .stray
    else if tr.scaled t ≤ 2 * tr.period then .accepted
    else .late

/-- The tracker after a pulse taken with advance, the tempo update of an accepted one included. -/
def Tracker.advanced (tr : Tracker) (last : Option Nat) (gain : Nat) (t : ShowTime) : Tracker :=
  let moved := tr.advance last t
  match tr.classify t with
  | .accepted => { moved with period := newPeriod tr.period gain (tr.scaled t) }
  | _ => moved

/-- A tracker set after a pulse, with the POSITION notice its counter calls for (R16). -/
def State.countPulse (s : State) (tr : Tracker) : State :=
  let counted := tr.count s.params.positionReport
  let s := { s with tracker := counted.1 }
  if counted.2 then
    s.post (.position (fullPos s.meter (some tr.confirmed)) tr.tempo tr.mode)
  else s

/-- A pulse that reaches the tracker now (R11), with its outcome. -/
def State.pulse (s : State) : State × PulseOutcome :=
  let t := s.showClock
  let tr := s.tracker
  let moved := tr.advanced (endGrain s.meter) s.params.followGain t
  match tr.classify t with
  | .ignored => (s, .ignored)
  | .stray => (s, .stray)
  | .marked => ({ s with tracker := { tr with mode := .following, tc := t } }, .marked)
  | .accepted => (s.countPulse moved, .accepted)
  | .late => (s.countPulse moved, .late)
  | .regained =>
    ((s.post (.beatRegained (fullPos s.meter (some moved.confirmed)) moved.tempo)).countPulse moved,
      .regained)

/-! ### SYNC, tempo, ARM, STOP, adoption -/

/-- The confirmed position set to `g` brought down to a step boundary (R17); `g` in grains. -/
def Tracker.syncTo (tr : Tracker) (g : Nat) (t : ShowTime) : Tracker :=
  let tr := { tr.takePpb with pulseCounter := 0 }
  let tr := { tr with confirmed := downTo (stepOf tr.ppb) g }
  match tr.mode with
  | .free => tr
  | _ => { tr with tc := t, mode := .following, lossOpen := false }

/-- SYNC to a position in grains, with its code and the position taken (R17). -/
def State.syncGrains (s : State) (g : Nat) : State × Status × Nat :=
  let tr := s.tracker.syncTo g s.showClock
  ({ s with tracker := tr }, if tr.confirmed = g then .ok else .adjusted, tr.confirmed)

/-- The SYNC request (R17): its code, and the confirmed position after it. -/
def State.syncRequest (s : State) (p : Bbg) : State × Status × Nat :=
  if s.tracker.mode = .stopped ∨ s.meter = [] then (s, .refusedState, 0) else
  match toGrains s.meter p with
  | none => (s, .badArgument, 0)
  | some g => s.syncGrains g

/-- The extrapolation SET_TEMPO keeps (R18): what a reading at `t` shows past C, and the whole step once
the clamp time has passed (log 18). -/
def Tracker.extrapolation (tr : Tracker) (t : ShowTime) : Nat :=
  match tr.modeAt t with
  | .waiting => stepOf tr.ppb
  | _ => min (elapsed t tr.tc * 192 / tr.period) (stepOf tr.ppb - 1)

/-- SET_TEMPO's effect (R18), the value already in range. -/
def Tracker.setTempo (tr : Tracker) (bpm10 : Nat) (t : ShowTime) : Tracker :=
  let p := periodOf bpm10
  match tr.mode with
  | .stopped | .free | .lost => { tr with period := p }
  | .following | .waiting =>
    { tr with period := p, tc := t - BitVec.ofNat 32 (ceilDiv (tr.extrapolation t * p) 192) }

/-- The tracker's part of ARM (R20, R52): the start position in grains, and a tempo if one is given. -/
def Tracker.arm (tr : Tracker) (g : Nat) (tempo : Option Nat) : Tracker :=
  let tr := tr.takePpb
  { tr with
    confirmed := downTo (stepOf tr.ppb) g
    period := match tempo with | some v => periodOf v | none => tr.period
    pulseCounter := 0, lossOpen := false, mode := .free }

/-- The tracker's part of STOP (R20). -/
def Tracker.stop (tr : Tracker) : Tracker :=
  { tr with mode := .stopped, lossOpen := false, pulseCounter := 0 }

/-- The tracker when the meter map is emptied (R20). -/
def Tracker.clear (tr : Tracker) : Tracker := { tr.stop with confirmed := 0 }

/-- Adoption of the peer's position and tempo (R19), the meter map not empty. -/
def Tracker.adopt (tr : Tracker) (last : Option Nat) (g bpm10 : Nat) : Tracker :=
  let tr := tr.takePpb
  { tr with
    confirmed := downTo (stepOf tr.ppb) (limitTo last g)
    period := periodOf bpm10, pulseCounter := 0, lossOpen := false, mode := .free }

/-- The tracker at the start of a show-safe reset at `t` (R22). -/
def Tracker.showSafe (tr : Tracker) (last : Option Nat) (t : ShowTime) : Tracker :=
  match tr.positionAt last t with
  | some g =>
    { tr with confirmed := limitTo last (upTo (stepOf tr.ppb) g), mode := .free, pulseCounter := 0
              lossOpen := false }
  | none => { tr with pulseCounter := 0, lossOpen := false }

end Sys2Proof.Machine
end

