-- ==== Sys2Proof/Machine/Flags.lean ====
section
/-!
DEFINITION. The status word and the sticky flags (10, section 10.5).
-/

namespace Sys2Proof.Machine

/-- The status word formed now (R169, R181): bit 15 first. -/
def State.statusWord (s : State) : BitVec 16 :=
  BitVec.ofNat 16 (
    trackerCode (s.tracker.modeAt s.showClock) * 8192 + schedCode s.sched.mode * 2048
      + bit s.sched.blackout * 1024 + ownerCode s.own.state * 256 + bit s.linkQuiet * 128
      + bit s.change.isSome * 64 + bit (!s.port.notices.isEmpty) * 32 + bit s.port.lineError.set * 16
      + bit s.port.noticesDropped.set * 8 + bit s.port.showError.set * 4 + bit s.groupHold * 2
      + bit s.sched.pendingGo.isSome)

/-- A sticky flag copied into a status word: marked as reported when it is set (R170). -/
def Sticky.report (f : Sticky) : Sticky := { f with reported := f.set }

/-- A sticky flag at the end of the transmission: cleared if still marked (R170). -/
def Sticky.settle (f : Sticky) : Sticky := if f.reported then Sticky.clear else f

/-- The three flags copied into the status word of a reply that begins transmission. -/
def ControlPort.reportFlags (p : ControlPort) : ControlPort :=
  { p with lineError := p.lineError.report, noticesDropped := p.noticesDropped.report
           showError := p.showError.report }

/-- The three flags at the end of a reply's transmission. -/
def ControlPort.settleFlags (p : ControlPort) : ControlPort :=
  { p with lineError := p.lineError.settle, noticesDropped := p.noticesDropped.settle
           showError := p.showError.settle }

/-- The line-error flag set (R163, R167). -/
def ControlPort.raiseLineError (p : ControlPort) : ControlPort := { p with lineError := Sticky.raise }

/-- The show-control error flag set (R141). -/
def State.raiseShowError (s : State) : State :=
  { s with port := { s.port with showError := Sticky.raise } }

end Sys2Proof.Machine
end

