-- ==== Sys2Proof/Machine/Operands.lean ====
section
/-!
DEFINITION. How a request command meets the record at the head of the request queue: the kind codes, the
form check (R164, R181), the taking (R165) and the reply.
-/

namespace Sys2Proof.Machine

/-! ### Kind codes of the requests (11, section 11.3) -/

def kIdentify : Byte := 0x01
def kStatus : Byte := 0x02
def kSetParam : Byte := 0x03
def kGetParam : Byte := 0x04
def kRestart : Byte := 0x05
def kLoadMeter : Byte := 0x10
def kSync : Byte := 0x11
def kSetTempo : Byte := 0x12
def kTap : Byte := 0x13
def kLoadCue : Byte := 0x18
def kDeleteCue : Byte := 0x19
def kReadCue : Byte := 0x1A
def kClearAct : Byte := 0x1B
def kArm : Byte := 0x20
def kStop : Byte := 0x21
def kGo : Byte := 0x22
def kJump : Byte := 0x23
def kBack : Byte := 0x24
def kHold : Byte := 0x25
def kRelease : Byte := 0x26
def kLoadPage : Byte := 0x28
def kDeletePage : Byte := 0x29
def kSetScreen : Byte := 0x2A
def kShowPage : Byte := 0x2B
def kClearOverride : Byte := 0x2C
def kGroupHold : Byte := 0x2D
def kGroupRelease : Byte := 0x2E
def kBlackout : Byte := 0x30
def kLift : Byte := 0x31
def kSetListener : Byte := 0x38
def kClearListener : Byte := 0x39
def kReadListener : Byte := 0x3A
def kLineTest : Byte := 0x40
def kSurvey : Byte := 0x41

/-- Every kind that names a request. -/
def requestKinds : List Byte :=
  [kIdentify, kStatus, kSetParam, kGetParam, kRestart, kLoadMeter, kSync, kSetTempo, kTap, kLoadCue,
    kDeleteCue, kReadCue, kClearAct, kArm, kStop, kGo, kJump, kBack, kHold, kRelease, kLoadPage,
    kDeletePage, kSetScreen, kShowPage, kClearOverride, kGroupHold, kGroupRelease, kBlackout, kLift,
    kSetListener, kClearListener, kReadListener, kLineTest, kSurvey]

/-- A reply's kind: the request's with its top bit set (R164). -/
def replyKind (kind : Byte) : Byte := kind ||| 0x80

/-! ### The form check -/

/-- What the form check finds of a record's body, for the operands of a command: it has its kind's form
and carries those operands, it does not have the form, or it carries other operands. -/
inductive BodyForm where
  | good | bad | other
deriving DecidableEq, Repr

/-- A request whose rule gives it no argument has an empty body (R181). -/
def formEmpty (body : List Byte) : BodyForm := if body = [] then .good else .bad

/-- A request whose body chapter 11 does not lay out: the command's operands are what the body carries
(log 6). -/
def formFree (_ : List Byte) : BodyForm := .good

/-- The body of LOAD_CUE. -/
def formCue (c : CueRecord) (body : List Byte) : BodyForm :=
  match parseCue body with
  | none => .bad
  | some d => if d = c then .good else .other

/-- The body of LOAD_PAGE. -/
def formPage (p : Page) (body : List Byte) : BodyForm :=
  match parsePage body with
  | none => .bad
  | some q => if q = p then .good else .other

/-! ### Taking a request and answering it -/

/-- The part takes the request at the head of the queue: no reset period is under way, no RESTART waits
for its reply to be sent, and the reply path holds no reply to a taken request (R165). -/
def State.takesRequests (s : State) : Bool :=
  !s.inReset && !s.port.restartTaken && !s.port.replies.any (fun r => r.taken)

/-- The request at the head leaves the queue. -/
def State.dropRequest (s : State) : State :=
  { s with port := { s.port with requests := s.port.requests.tail } }

/-- A reply's body is carried with OK and ADJUSTED only (R164). -/
def replyBodyFor (status : Status) (body : ReplyBody) : ReplyBody :=
  match status with
  | .ok | .adjusted => body
  | _ => .empty

/-- The reply of a taken request joins the reply path (R165). -/
def State.answer (s : State) (kind : Byte) (status : Status) (body : ReplyBody) : State :=
  { s with port := { s.port with
      replies := s.port.replies ++ [{ kind := replyKind kind, taken := true, status := status
                                      body := replyBodyFor status body }] } }

/-- The taking of a request of a kind: the record leaves the queue, its body's form is checked, the block
that owns the kind handles it whole, and the reply is formed (R164, R165). Nothing is taken when the part
takes no request now, or when the record at the head is another (log 2). -/
def State.take (s : State) (kind : Byte) (form : List Byte → BodyForm)
    (handle : State → State × Status × ReplyBody) : State :=
  match s.port.requests with
  | [] => s
  | r :: _ =>
    if s.takesRequests && r.kind == kind then
      match form r.body with
      | .other => s
      | .bad => s.dropRequest.answer kind .badArgument .empty
      | .good =>
        let h := handle s.dropRequest
        h.1.answer kind h.2.1 h.2.2
    else s

/-- A request that answers a code and changes nothing. -/
def refuse (s : State) (status : Status) : State × Status × ReplyBody := (s, status, .empty)

end Sys2Proof.Machine
end

