-- ==== Sys2Proof/Machine/Composer.lean ====
section
/-!
DEFINITION. The Screen Composer (04): sources and targets, layout, content tags, the building of changes,
their hand-over (R95), the blackout change, and the composer's part of a commit and of an abandonment.
-/

namespace Sys2Proof.Machine

/-! ### Pages -/

/-- The page of an id. -/
def State.page? (s : State) (id : Nat) : Option Page := s.pages.find? (fun p => p.id == id)

/-- Whether a screen's lane finds a page: the store holds it and its lane is the screen's (R71). -/
def State.finds (s : State) (lane id : Nat) : Bool :=
  match s.page? id with
  | some p => p.lane == lane
  | none => false

/-- The glyphs a page uses (R65). -/
def pageGlyphs (p : Page) : Nat := (p.lines.map List.length).sum

/-- The glyphs in use in the pool. -/
def poolUse (pages : List Page) : Nat := (pages.map pageGlyphs).sum

/-! ### Sources -/

/-- The page a source names. -/
def Source.page? : Source → Option Nat
  | .cue _ p => some p
  | .override p => some p
  | .blank _ => none
  | .dark => none

/-- A cue source as a shown source. -/
def CueSource.toSource : CueSource → Source
  | .blank c => .blank c
  | .page c p => .cue c p

/-- The cue source a cue gives a lane (R77 step 1). -/
def cueSourceOf (record : CueRecord) (lane : Nat) : CueSource :=
  match record.pages.find? (fun r => r.lane == lane) with
  | some r => .page record.number r.page
  | none => .blank (some record.number)

/-- What a screen should show (R71). -/
def targetSource (dark : Bool) (override : Option Nat) (cueSource : CueSource) : Source :=
  if dark then .dark else
  match override with
  | some p => .override p
  | none => cueSource.toSource

/-- A source with its page looked up now. -/
def State.lookUp (s : State) (lane : Nat) (source : Source) : Shown :=
  { source := source, found := match source.page? with | some p => s.finds lane p | none => false }

/-- A target shows blank: it names no page, or a page that is missing (R71). -/
def Shown.blank (target : Shown) : Bool := target.source.page?.isNone || !target.found

/-- A screen's live shown source shows blank. A page source without its found mark is judged by the live
tag (R71). -/
def Screen.showsBlank (c : Screen) : Bool :=
  c.live.source.page?.isNone || (!c.live.found && c.liveTag == 0)

/-- A target shows the same text as a screen's live shown source (R71). -/
def sameText (target : Shown) (c : Screen) : Bool :=
  (target.blank && c.showsBlank)
    || (target.found && c.live.found && target.source.page?.isSome
        && target.source.page? == c.live.source.page?)

/-- Page `id` is in use: the live or pending shown source of a screen names it as found (R66). -/
def State.pageInUse (s : State) (id : Nat) : Bool :=
  fourNumbers.any (fun i =>
    let c := s.screens.get i
    (c.live.found && c.live.source.page? == some id)
      || (match c.pendingShown with
          | some sh => sh.found && sh.source.page? == some id
          | none => false))

/-! ### Layout (R73, R74) -/

/-- The space code. -/
def space : Glyph := 0x0020

/-- A screen's width in columns (R69). -/
def screenWidth (c : ScreenSetup) : Nat := c.tiles.length * c.cpt

/-- A line laid out across a width: centred, the odd column on the right, or clipped (R73). -/
def layLine (width : Nat) (line : List Glyph) : List Glyph :=
  if line.length ≤ width then
    let pad := (width - line.length) / 2
    List.replicate pad space ++ line ++ List.replicate (width - pad - line.length) space
  else line.take width

/-- The three laid-out lines of a page, missing lines as empty ones (R73). -/
def layPage (width : Nat) (p : Page) : List (List Glyph) :=
  [layLine width (p.lines.getD 0 []), layLine width (p.lines.getD 1 []), layLine width (p.lines.getD 2 [])]

/-- The segment of tile number `k` (R74). -/
def segmentCodes (cpt k : Nat) (lines : List (List Glyph)) : List Glyph :=
  lines.flatMap (fun l => (l.drop (k * cpt)).take cpt)

/-- The segments of a page on a screen, by tile address (R74). -/
def segmentsOf (setup : ScreenSetup) (p : Page) : List Segment :=
  let lines := layPage (screenWidth setup) p
  setup.tiles.zipIdx.map (fun (tile, k) => { tile := tile, codes := segmentCodes setup.cpt k lines })

/-- A line of the page is longer than the screen is wide (R73). -/
def clipsOn (setup : ScreenSetup) (p : Page) : Bool :=
  p.lines.any (fun l => decide (screenWidth setup < l.length))

/-! ### Content tags (R72) -/

/-- A tag counter plus 1, with 1 following 255. -/
def bumpTag (counter : Nat) : Nat := if counter ≥ 255 then 1 else counter + 1

/-- The next tag after a counter that is none of those to avoid. -/
def issueTag (avoid : List Nat) : Nat → Nat → Nat
  | 0, counter => bumpTag counter
  | fuel + 1, counter =>
    if avoid.contains (bumpTag counter) then issueTag avoid fuel (bumpTag counter)
    else bumpTag counter

/-- The new tag of a screen: not its live tag nor a held tag of a tile of it (R72). -/
def State.newTag (s : State) (c : Screen) : Nat :=
  let held := (s.bus.tiles.filter (fun t => c.tiles.contains t.address)).flatMap (fun t => t.heldTags)
  issueTag (c.liveTag :: held) 255 c.tagCounter

/-! ### Building a change (R75, R77) -/

/-- The entry a screen's target asks for: the instruction, with a new tag and segments for SWAP. -/
def State.transfer (s : State) (i : Fin 4) (setup : ScreenSetup) (target : Shown) : Entry :=
  let page := match target.source.page? with | some p => s.page? p | none => none
  match target.blank, page with
  | false, some p =>
    { screen := i, shown := target, instr := .swap (s.newTag (s.screens.get i))
      segments := segmentsOf setup p }
  | _, _ => { screen := i, shown := target, instr := .blank, segments := [] }

/-- The entry of an enabled screen, if it gets one (R77 step 4). An initial blank's new source is BLANK
naming no cue (log 14). With the blackout flag on, a screen that shows blank without being DARK yet gets NONE, as
step 4 has it where neither the old source nor the new one needs a transfer: over R80's BLANK (log 52). -/
def State.entryFor (s : State) (i : Fin 4) (setup : ScreenSetup) (target : Shown) : Option Entry :=
  let c := s.screens.get i
  if c.initialBlank then
    some { screen := i, shown := { source := .blank none, found := false }, instr := .blank
           segments := [] }
  else if c.reissue || !sameText target c then some (s.transfer i setup target)
  else if target.source ≠ c.live.source then
    some { screen := i, shown := target, instr := .none, segments := [] }
  else none

/-- The cue source and override a screen takes at the commit (R77 steps 1 and 2). `carried` holds those of a
superseded change that the build takes over (R133). -/
def State.takeFor (s : State) (firing : Option Firing) (carried : List Take) (i : Fin 4)
    (setup : ScreenSetup) : Take :=
  let c := s.screens.get i
  let base : Take :=
    match carried.find? (fun t => t.screen == i) with
    | some t => t
    | none => { screen := i, cueSource := c.cueSource, override := c.override }
  { screen := i
    cueSource := match firing with | some f => cueSourceOf f.record setup.lane | none => base.cueSource
    override :=
      match (if s.groupHold then none else c.edit) with
      | some (.set p) => some p
      | some .clear => none
      | none => base.override }

/-- What a build works out for one screen (R77); none for a disabled one. -/
def State.plan (s : State) (firing : Option Firing) (carried : List Take) (i : Fin 4) :
    Option (Take × Option Entry) :=
  match (s.screens.get i).setup with
  | none => none
  | some setup =>
    let take := s.takeFor firing carried i setup
    let target := s.lookUp setup.lane (targetSource s.sched.blackout take.override take.cueSource)
    some (take, s.entryFor i setup target)

/-- The lanes of a cue's pages whose page is missing, judged for every enabled screen of the lane (R77,
log 16). -/
def State.missingLanes (s : State) (record : CueRecord) : List Nat :=
  (record.pages.filter (fun r =>
    !s.finds r.lane r.page
      && s.enabled.any (fun i => match (s.screens.get i).setup with
          | some setup => setup.lane == r.lane
          | none => false))).map (fun r => r.lane)

/-- The lanes of a cue's pages with a line longer than the width of an enabled screen of the lane (R77). A page stored
under another lane is missing there and not clipped (log 65). -/
def State.clippedLanes (s : State) (record : CueRecord) : List Nat :=
  (record.pages.filter (fun r =>
    match s.page? r.page with
    | some p => p.lane == r.lane && s.enabled.any (fun i => match (s.screens.get i).setup with
        | some setup => setup.lane == r.lane && clipsOn setup p
        | none => false)
    | none => false)).map (fun r => r.lane)

/-- What a build took from the waiting work is emptied (R77); edits under group hold stay. -/
def State.spendWork (s : State) : State :=
  s.updScreens (fun _ c =>
    { c with edit := if s.groupHold then c.edit else none
             restore := false, reissue := false, initialBlank := false })

/-- Work is waiting for a build (R76); edits count only while the group-hold flag is off. -/
def State.workWaits (s : State) : Bool :=
  fourNumbers.any (fun i =>
    let c := s.screens.get i
    c.restore || c.reissue || c.initialBlank || (!s.groupHold && c.edit.isSome))

/-! ### Hand-over (R95) -/

/-- The required set of a change: every tile of every screen given SWAP, but for OUT tiles (R95). -/
def State.requiredFor (s : State) (entries : List Entry) : List Nat :=
  entries.flatMap (fun e =>
    match e.instr with
    | .swap _ => (s.screens.get e.screen).tiles.filter (fun a => !s.isOut a)
    | _ => [])

/-- The entry of a screen in a change. -/
def entryOf (entries : List Entry) (i : Fin 4) : Option Entry :=
  entries.find? (fun e => e.screen == i)

/-- A screen after a hand-over: its pending shown source, and the tag issued to it. -/
def Screen.handed (c : Screen) (e : Option Entry) : Screen :=
  match e with
  | none => { c with pendingShown := none }
  | some e =>
    { c with
      pendingShown := some e.shown
      tagCounter := match e.instr with | .swap tag => tag | _ => c.tagCounter }

/-- Whether a change handed over now was in flight before the first slot of the present interval (R96):
slot 0 begins 1,000 µs after the boundary (R91). -/
def State.beforeSlots (s : State) : Bool :=
  match s.bus.interval with
  | some iv => decide (elapsed s.showClock iv.start < 1000)
  | none => false

/-- An interval's attempts, for a change newly in flight. -/
def Interval.fresh (iv : Interval) : Interval := { iv with attempted := [], failed := [], retried := [] }

/-- The content frame in progress stops: its reply window goes, and its slots still to come are free
(R101, log 40). A repair frame in progress goes on and its acknowledgement is taken (log 66), as a poll is. -/
def PanelBus.dropTransfer (b : PanelBus) : PanelBus :=
  match b.window with
  | some w =>
    match w.frame with
    | .first | .retry =>
      { b with window := none
               interval := b.interval.map (fun iv => { iv with busy := min iv.busy iv.next }) }
    | .repair | .outPoll | .surveyPoll => b
  | none => b

/-- A change handed to the panel bus controller: in flight from here, in place of any before it (R95). -/
def State.handOver (s : State) (c : Change) : State :=
  let bus := s.bus.dropTransfer
  let s1 := s.updScreens (fun i sc => sc.handed (entryOf c.entries i))
  { s1 with
    change := some { c with required := s.requiredFor c.entries, acked := [], markCount := 0
                            whole := s.beforeSlots }
    bus := { bus with interval := bus.interval.map Interval.fresh } }

/-- A take that changes its screen's cue source or override. -/
def State.changesTake (s : State) (t : Take) : Bool :=
  let c := s.screens.get t.screen
  decide (t.cueSource ≠ c.cueSource) || decide (t.override ≠ c.override)

/-- A build (R77) from a firing, the takes of a superseded change, and all waiting work. A build without a
firing that gives no entry hands nothing over when it also changes no source; a takeover's build (R133)
does not look at the sources (log 23). -/
def State.build (s : State) (firing : Option Firing) (carried : List Take) (takeover : Bool) : State :=
  let plans := fourNumbers.filterMap (s.plan firing carried)
  let takes := plans.map (fun p => p.1)
  let entries := plans.filterMap (fun p => p.2)
  let blanks := s.enabled.filter (fun i => (s.screens.get i).initialBlank)
  let spent := s.spendWork
  if firing.isNone && entries.isEmpty && (takeover || !takes.any s.changesTake) then spent else
  spent.handOver
    { firing := firing, takes := takes, entries := entries
      clipped := match firing with | some f => s.clippedLanes f.record | none => []
      missing := match firing with | some f => s.missingLanes f.record | none => []
      blackout := false, builtDark := s.sched.blackout, initialBlanks := blanks
      required := [], acked := [], markCount := 0, whole := false }

/-- A firing handed to the composer (R50, R76). -/
def State.buildFiring (s : State) (f : Firing) : State := s.build (some f) [] false

/-- Work has arrived, or a flight has ended: the composer builds if nothing is in flight and work waits
(R76). -/
def State.composeWork (s : State) : State :=
  if s.change.isNone && s.workWaits then s.build none [] false else s

/-- A restore of all screens taken: waiting work from now on (R76). -/
def State.restoreAll (s : State) : State := s.updScreens (fun _ c => { c with restore := true })

/-! ### The blackout change (R80) -/

/-- The takes of a blackout change: those of the change it supersedes, with the override edits not under
group hold. -/
def State.darkTakes (s : State) : List Take :=
  let carried := match s.change with | some c => c.takes | none => []
  fourNumbers.filterMap (fun i =>
    match (s.screens.get i).setup with
    | some setup => some (s.takeFor none carried i setup)
    | none => none)

/-- The blackout change handed over, the flag being on: built when a change is in flight or an enabled
screen does not show DARK (R80). A superseded firing keeps its clipped and missing lanes (log 63), its change's
initial blanks are not carried (log 34), and restores, reissues and initial blanks that wait go on waiting (log 64). -/
def State.buildBlackout (s : State) : State :=
  if s.change.isSome || s.enabled.any (fun i => decide ((s.screens.get i).live.source ≠ .dark)) then
    let entries := s.enabled.map (fun i =>
      ({ screen := i, shown := { source := .dark, found := false }, instr := .blank
         segments := [] } : Entry))
    let spent := s.updScreens (fun _ c => { c with edit := if s.groupHold then c.edit else none })
    spent.handOver
      { firing := match s.change with | some c => c.firing | none => none
        takes := s.darkTakes, entries := entries
        clipped := match s.change with | some c => c.clipped | none => []
        missing := match s.change with | some c => c.missing | none => []
        blackout := true, builtDark := true, initialBlanks := []
        required := [], acked := [], markCount := 0, whole := false }
  else s

/-! ### Commit and abandonment (R78) -/

/-- A screen after a commit: its new cue source and override, its new live source and tag, no pending
source (R78), and its kept segments (R97). `instr` is what the mark gave it. -/
def Screen.committed (c : Screen) (take : Option Take) (e : Option Entry) (instr : ScreenInstr) : Screen :=
  let c1 := match take with
    | some t => { c with cueSource := t.cueSource, override := t.override }
    | none => c
  let c2 := match e with
    | some e => { c1 with live := e.shown }
    | none => c1
  let c3 := match instr, e with
    | .swap tag, some e => { c2 with liveTag := tag, kept := e.segments }
    | .blank, _ => { c2 with liveTag := 0, kept := [] }
    | _, _ => c2
  { c3 with pendingShown := none }

/-- The change in flight is abandoned (R78, R101): no screen takes its content. -/
def State.abandon (s : State) : State :=
  let s := s.updScreens (fun _ c => { c with pendingShown := none })
  { s with change := none, own := { s.own with heldChange := false }, bus := s.bus.dropTransfer }

end Sys2Proof.Machine
end

