-- ==== Sys2Proof/Machine/Scheduling.lean ====
section
/-!
DEFINITION. Cue Scheduling and Firing (03): firing, the pending GO, the readiness walk, the choice, the
dwell test and the commit report, as operations; and the meanings of ARM, STOP, GO, JUMP, BACK, HOLD,
RELEASE, SCHEDULER_BOUNDARY and COMMIT_REPORT.
-/

namespace Sys2Proof.Machine

/-! ### Latches -/

/-- One listener slot updated. -/
def State.updSlot (s : State) (i : Fin 4) (f : Slot → Slot) : State :=
  { s with listener := { s.listener with slots := s.listener.slots.set i (f (s.listener.slots.get i)) } }

/-- Every slot's match latch cleared (R149). -/
def State.clearLatches (s : State) : State :=
  { s with listener := { s.listener with
      slots := s.listener.slots.mapIdx (fun _ sl => { sl with latch := false }) } }

/-- The slot a STAGE cue names. -/
def stageSlot (c : CueRecord) : Option (Fin 4) :=
  match c.kind, c.slot with
  | .stage, some n => fourth? n
  | _, _ => none

/-- A STAGE cue's slot has its match latch cleared, by a firing or a skip (R50, R149). -/
def State.consumeLatch (s : State) (c : CueRecord) : State :=
  match stageSlot c with
  | some i => s.updSlot i (fun sl => { sl with latch := false })
  | none => s

/-- The match latch of the slot a STAGE cue names is set. -/
def State.latchSet (s : State) (c : CueRecord) : Bool :=
  match stageSlot c with
  | some i => (s.listener.slots.get i).latch
  | none => false

/-! ### Firing (R50) -/

/-- The pending GO emptied without firing, with its notice if one was held (R45). The last boundary taken is the
sweep timer's, whether or not the scheduler has handled it (log 62). -/
def State.lapse (s : State) (cause : LapseCause) : State :=
  match s.sched.pendingGo with
  | some _ =>
    { s with sched := { s.sched with pendingGo := none } }.post (.goLapsed cause s.bus.sweepNumber)
  | none => s

/-- A cue fires (R50): a STAGE cue's latch is cleared, the pointer moves, the FOLLOW timer stops, and the
firing is handed to the composer. -/
def State.fire (s : State) (c : Cue) (trigger : Trigger) (next : NextPtr) : State :=
  let s1 := s.consumeLatch c.record
  let s2 := { s1 with sched := { s1.sched with next := next, follow := none } }
  s2.buildFiring { cue := c.record.number, trigger := trigger, record := c.record }

/-- The trigger a pending GO fires with. -/
def PendingGo.trigger : PendingGo → Trigger
  | .go => .go
  | .jump => .jump

/-- The pending GO fires the cue the pointer names, or lapses at end of list (R45). -/
def State.firePending (s : State) (g : PendingGo) : State :=
  match s.nextCue? with
  | some c =>
    { s with sched := { s.sched with pendingGo := none } }.fire c g.trigger (s.following c.record.number)
  | none => s.lapse .endOfList

/-! ### The readiness walk (R47, R48) -/

/-- A time in ms as a number of sweeps, rounded up (R42, R44). -/
def sweepsOf (ms periodMs : Nat) : Nat := ceilDiv ms periodMs

/-- The lead of a TIMED cue in µs, for the sweep that begins at the boundary (R48). -/
def State.leadMicros (s : State) (periodMs : Nat) (c : CueRecord) : Nat :=
  let lead := match c.leadMs with | some ms => ms | none => s.params.defaultLead
  lead * 1000 + periodMs * 1000 + s.params.tileLatency * 1000
    + (if s.linkQuiet then 2 * (periodMs * 1000) else 0)

/-- The lead in grains, at most four beats (R48). -/
def State.leadGrains (s : State) (periodMs : Nat) (c : CueRecord) : Nat :=
  min (s.leadMicros periodMs c * 192 / s.tracker.period) 768

/-- A cue is ready at a boundary (R47). `first`: it is the first cue walked. `used`: the slots whose latch
has readied an earlier cue of this walk. -/
def State.readyAt (s : State) (b : Boundary) (first : Bool) (used : List (Fin 4)) (c : Cue) : Bool :=
  match c.record.kind with
  | .timed =>
    match s.tracker.mode, s.positionAt (s.readingTime b), c.anchorGrains with
    | .following, some p, some anchor => decide (anchor ≤ p + s.leadGrains b.periodMs c.record)
    | .waiting, some p, some anchor => decide (anchor ≤ p + s.leadGrains b.periodMs c.record)
    | _, _, _ => false
  | .follow =>
    match s.sched.follow, c.record.delayMs with
    | some timer, some delay => first && decide (sweepsOf delay s.params.sweepPeriod ≤ timer.count)
    | _, _ => false
  | .stage =>
    s.latchSet c.record && !(match stageSlot c.record with | some i => used.contains i | none => false)
  | .manual => false

/-- The ready set: the run of ready cues from the first one walked (R47). -/
def State.readyRun (s : State) (b : Boundary) : Bool → List (Fin 4) → List Cue → List Cue
  | _, _, [] => []
  | first, used, c :: rest =>
    if s.readyAt b first used c then
      c :: s.readyRun b false ((stageSlot c.record).toList ++ used) rest
    else []

/-- The cues the walk goes through: from the next pointer on. -/
def State.fromPointer (s : State) : List Cue :=
  match s.sched.next with
  | .cue n => s.cues.filter (fun c => decide (n ≤ c.record.number))
  | _ => []

/-- The ready set of the walk made at a boundary. -/
def State.readySet (s : State) (b : Boundary) : List Cue := s.readyRun b true [] s.fromPointer

/-- The choice (R49): the first essential cue standing before the last, else the last. -/
def choose (ready : List Cue) : Option Cue :=
  match ready.dropLast.find? (fun c => c.record.essential) with
  | some c => some c
  | none => ready.getLast?

/-- The live cue's dwell has run (R42). -/
def State.dwellRun (s : State) (b : Boundary) : Bool :=
  match s.sched.live.cue with
  | none => true
  | some n =>
    let own := match s.cue? n with | some c => c.record.dwellMs | none => none
    let ms := match own with | some ms => ms | none => s.params.defaultDwell
    decide (sweepsOf ms b.periodMs ≤ s.sched.dwell)

/-- A cue passed over by a firing of the walk (R50, R51). -/
def State.skip (b : Boundary) (chosen : Nat) (pos : Option FullPos) (s : State) (c : Cue) : State :=
  (s.consumeLatch c.record).post (.cueSkipped c.record.number .overtaken chosen b.number pos)

/-- The trigger named after a cue's kind (R50); a MANUAL cue is never chosen by the walk. -/
def kindTrigger : CueKind → Trigger
  | .timed => .timed
  | .follow => .follow
  | .stage => .stage
  | .manual => .go

/-- The walk, the choice and the dwell test of a boundary, and the firing they decide (R46 step 3). -/
def State.evaluate (s : State) (b : Boundary) : State :=
  let ready := s.readySet b
  match choose ready with
  | none => s
  | some c =>
    if s.dwellRun b || c.record.cut then
      let skipped := ready.takeWhile (fun d => decide (d.record.number < c.record.number))
      let pos := s.fullPositionAt (s.readingTime b)
      let s1 := skipped.foldl (State.skip b c.record.number pos) s
      s1.fire c (kindTrigger c.record.kind) (s1.following c.record.number)
    else s

/-! ### The scheduler's boundary (R46) -/

/-- A running FOLLOW timer raised, up to 3,000 (R44). -/
def FollowTimer.rise (t : FollowTimer) : FollowTimer := { count := min (t.count + 1) 3000, fresh := false }

/-- Step 1: the dwell count and the FOLLOW timer rise, but for what the no-rise flag holds back (R41,
R44). -/
def Scheduler.raise (sc : Scheduler) : Scheduler :=
  if sc.noRise then
    { sc with noRise := false
              follow := match sc.follow with
                | some t => some (if t.fresh then { t with fresh := false } else t.rise)
                | none => none }
  else
    { sc with dwell := min (sc.dwell + 1) 1000
              follow := match sc.follow with | some t => some t.rise | none => none }

/-- Steps 2 to 4 of a boundary's handling. -/
def State.afterRaise (s : State) (b : Boundary) : State :=
  if s.flight then s else
  match s.sched.mode, s.sched.pendingGo with
  | .idle, _ => s
  | _, some g => s.firePending g
  | .running, none => s.evaluate b
  | .held, none => s

/-- The scheduler handles a boundary (R46); it takes none in a reset period (R63). -/
def State.schedulerHandles (s : State) (b : Boundary) : State :=
  if s.inReset then s else { s with sched := s.sched.raise }.afterRaise b

/-! ### The commit report (R58) -/

/-- The shown history with a cue pushed, the oldest of eight dropped (R43). -/
def pushHistory (history : List Nat) (n : Nat) : List Nat :=
  (if history.length < Config.historyDepth then history else history.tail) ++ [n]

/-- The shown history after a commit: a commit of BACK pops the newest entry (R43). -/
def historyAfter (history : List Nat) (r : CommitReport) : List Nat :=
  if r.trigger = .back then history.dropLast else pushHistory history r.cue

/-- The scheduler takes a commit report (R58). The no-rise flag is set when the scheduler has yet to handle
the commit's boundary (R41). -/
def State.takeReport (s : State) (r : CommitReport) : State :=
  let before := s.bus.schedulerDue.any (fun b => b.number == r.sweep)
  let sc := s.sched
  let starts := decide (sc.mode ≠ .idle) && s.namesFollow sc.next && sc.follow.isNone
  { s with sched := { sc with
      live := { cue := some r.cue, sweep := r.sweep, trigger := some r.trigger }
      dwell := 0
      noRise := before
      history := historyAfter sc.history r
      follow := if starts then some { count := 0, fresh := before } else sc.follow } }.post (.cueLive r)

/-! ### Requests that run the show (R52 to R57) -/

/-- A taken ARM, from its start position in grains and its next cue (R52). -/
def State.armTaken (s : State) (g : Nat) (tempo : Option Nat) (next : NextPtr) (held : Bool) :
    State × Status × ReplyBody :=
  let tr := s.tracker.arm g tempo
  let s1 := { s with
    tracker := tr
    sched := { s.sched with mode := if held then .held else .running, next := next
                            follow := s.followFor next } }
  let limited := match tempo with | some v => limitTempo v != v | none => false
  ((s1.lapse .arm).clearLatches, if tr.confirmed != g || limited then .adjusted else .ok,
    .armed tr.confirmed next)

/-- ARM (R52). -/
def State.armRequest (s : State) (pos : Bbg) (tempo first : Option Nat) (held : Bool) :
    State × Status × ReplyBody :=
  if s.meter = [] then refuse s .refusedState else
  match toGrains s.meter pos with
  | none => refuse s .badArgument
  | some g =>
    match first with
    | some n =>
      if n < 1 ∨ Config.maxCueNumber < n then refuse s .badArgument
      else if (s.cue? n).isNone then refuse s .notFound
      else s.armTaken g tempo (.cue n) held
    | none => s.armTaken g tempo (pointTo s.cues) held

/-- STOP (R53). -/
def State.stopRequest (s : State) : State × Status × ReplyBody :=
  let s1 := { s with
    tracker := s.tracker.stop
    sched := { s.sched with mode := .idle, next := .absent, follow := none } }
  ((s1.lapse .stop).clearLatches, .ok, .empty)

/-- GO (R54). -/
def State.goRequest (s : State) : State × Status × ReplyBody :=
  if s.sched.mode = .idle then refuse s .refusedState else
  match s.nextCue? with
  | none => refuse s .notFound
  | some c =>
    if s.flight then
      if s.sched.pendingGo.isSome then refuse s .busy
      else ({ s with sched := { s.sched with pendingGo := some .go } }, .ok, .goPending)
    else (s.fire c .go (s.following c.record.number), .ok, .goFired c.record.number)

/-- The firing part of a taken JUMP (R55). -/
def State.jumpFire (s : State) (c : Cue) : State × JumpOutcome :=
  if s.flight then ({ s with sched := { s.sched with pendingGo := some .jump } }, .pending)
  else (s.fire c .jump (s.following c.record.number), .fired)

/-- The sync part of a taken JUMP (R55): SYNC at the stored anchor, if the tracker takes SYNC (log 50). The position
it brought the tracker to goes into the reply, with OK as with ADJUSTED (log 57). -/
def State.jumpSync (s : State) (anchor : Option Nat) : State × Status × Option Nat :=
  match anchor with
  | some g =>
    if s.tracker.mode = .stopped then (s, .ok, none) else
    let r := s.syncGrains g
    (r.1, r.2.1, some r.2.2)
  | none => (s, .ok, none)

/-- JUMP (R55). -/
def State.jumpRequest (s : State) (n : Nat) (withSync withFire : Bool) : State × Status × ReplyBody :=
  if s.sched.mode = .idle then refuse s .refusedState
  else if n < 1 ∨ Config.maxCueNumber < n then refuse s .badArgument
  else match s.cue? n with
  | none => refuse s .notFound
  | some c =>
    if withSync && c.anchorGrains.isNone then refuse s .badArgument
    else if withFire && s.sched.pendingGo.isSome && s.flight then refuse s .busy
    else
      let s1 := { s with sched := { s.sched with next := .cue n, follow := s.followFor (.cue n) } }
      let synced := s1.jumpSync (if withSync then c.anchorGrains else none)
      let fired := if withFire then synced.1.jumpFire c else (synced.1, .pointed)
      (fired.1, synced.2.1, .jumped fired.2 synced.2.2)

/-- BACK (R56). -/
def State.backRequest (s : State) : State × Status × ReplyBody :=
  if s.sched.mode = .idle then refuse s .refusedState else
  match s.sched.history.reverse with
  | x :: y :: _ =>
    if s.flight then refuse s .busy else
    match s.cue? y with
    | none => refuse s .notFound
    | some c =>
      let s1 := s.fire c .back (.cue x)
      let s2 := { s1 with sched := { s1.sched with mode := .held, follow := s1.followFor (.cue x) } }
      (s2.lapse .back, .ok, .empty)
  | _ => refuse s .notFound

/-- HOLD (R57). -/
def State.holdRequest (s : State) : State × Status × ReplyBody :=
  if s.sched.mode = .idle then refuse s .refusedState
  else ({ s with sched := { s.sched with mode := .held } }, .ok, .empty)

/-- RELEASE (R57). -/
def State.releaseRequest (s : State) : State × Status × ReplyBody :=
  if s.sched.mode = .idle then refuse s .refusedState
  else ({ s with sched := { s.sched with mode := .running } }, .ok, .empty)

/-! ### Adoption from the peer (R61) -/

/-- Adoption of a cue offered by the ownership unit (R61): not taken when the cue is not in the list or a
change is in flight. -/
def State.adoptCue (s : State) (n : Nat) : State :=
  if s.flight then s else
  match s.cue? n with
  | none => s
  | some c =>
    let next := if s.sched.mode = .idle then s.sched.next else s.following n
    (s.fire c .adopt next).lapse .adopt

/-! ### Meanings -/

/-- ARM (R52). -/
def execArm (pos : Bbg) (tempo first : Option Nat) (held : Bool) (s : State) :
    Host.Outcome State Fault Refusal :=
  .next (s.take kArm formFree (fun s => s.armRequest pos tempo first held))

/-- STOP (R53). -/
def execStop (s : State) : Host.Outcome State Fault Refusal :=
  .next (s.take kStop formEmpty State.stopRequest)

/-- GO (R54). -/
def execGo (s : State) : Host.Outcome State Fault Refusal :=
  .next (s.take kGo formEmpty State.goRequest)

/-- JUMP (R55). -/
def execJump (n : Nat) (withSync withFire : Bool) (s : State) : Host.Outcome State Fault Refusal :=
  .next (s.take kJump formFree (fun s => s.jumpRequest n withSync withFire))

/-- BACK (R56). -/
def execBack (s : State) : Host.Outcome State Fault Refusal :=
  .next (s.take kBack formEmpty State.backRequest)

/-- HOLD (R57). -/
def execHold (s : State) : Host.Outcome State Fault Refusal :=
  .next (s.take kHold formEmpty State.holdRequest)

/-- RELEASE (R57). -/
def execRelease (s : State) : Host.Outcome State Fault Refusal :=
  .next (s.take kRelease formEmpty State.releaseRequest)

/-- SCHEDULER_BOUNDARY: the scheduler handles the oldest boundary that has reached it (R46). -/
def execSchedulerBoundary (s : State) : Host.Outcome State Fault Refusal :=
  match s.bus.schedulerDue with
  | [] => .next s
  | b :: rest => .next ({ s with bus := { s.bus with schedulerDue := rest } }.schedulerHandles b)

/-- COMMIT_REPORT: the scheduler takes the oldest commit report (R58). -/
def execCommitReport (s : State) : Host.Outcome State Fault Refusal :=
  match s.reports with
  | [] => .next s
  | r :: rest => .next ({ s with reports := rest }.takeReport r)

end Sys2Proof.Machine
end

