-- ==== Sys2Proof/Machine/Act.lean ====
section
/-!
DEFINITION. The material of the act: LOAD_METER (01), the cue list's requests LOAD_CUE, DELETE_CUE and
READ_CUE, and CLEAR_ACT (02).
-/

namespace Sys2Proof.Machine

/-! ### LOAD_METER (R2) -/

/-- Each entry's first bar and beats are within their ranges. -/
def meterRangesOk (entries : List MeterPair) : Bool :=
  entries.all (fun e => decide (1 ≤ e.firstBar) && decide (e.firstBar ≤ Config.lastBar)
    && decide (1 ≤ e.beats) && decide (e.beats ≤ 16))

/-- The first bars rise strictly, from after a bar on. -/
def barsRise : Nat → List MeterPair → Bool
  | _, [] => true
  | bar, e :: rest => decide (bar < e.firstBar) && barsRise e.firstBar rest

/-- The bar the first new entry must lie after: the last of the map, or none below bar 1. -/
def lastFirstBar (meter : List MeterEntry) : Nat :=
  match meter.getLast? with
  | some e => e.firstBar
  | none => 0

/-- An empty map is started at bar 1. -/
def startsAtOne (meter : List MeterEntry) (entries : List MeterPair) : Bool :=
  !meter.isEmpty || (match entries with | e :: _ => e.firstBar == 1 | [] => true)

/-- LOAD_METER (R2). -/
def State.loadMeterRequest (s : State) (entries : List MeterPair) : State × Status × ReplyBody :=
  if !s.cues.isEmpty || decide (s.tracker.mode ≠ .stopped) then refuse s .refusedState
  else if entries.isEmpty || !meterRangesOk entries || !startsAtOne s.meter entries
      || !barsRise (lastFirstBar s.meter) entries
      || decide (Config.maxMeter < s.meter.length + entries.length) then refuse s .badArgument
  else ({ s with meter := appendMeter s.meter entries }, .ok, .empty)

/-! ### Cue records (R23, R24, R29) -/

/-- An optional field within a bound. -/
def optAtMost (bound : Nat) : Option Nat → Bool
  | none => true
  | some n => decide (n ≤ bound)

/-- A bar:beat:grain within its ranges: bar 1 to 9,999, beat from 1, grain 0 to 191 (00, Conventions). -/
def bbgInRange (p : Bbg) : Bool :=
  decide (1 ≤ p.bar) && decide (p.bar ≤ Config.lastBar) && decide (1 ≤ p.beat) && decide (p.grain ≤ 191)

/-- A cue number within 1 to 65,000. -/
def cueNumberOk (n : Nat) : Bool := decide (1 ≤ n) && decide (n ≤ Config.maxCueNumber)

/-- Every present field is within its range (R29, first check). -/
def cueRangesOk (c : CueRecord) : Bool :=
  cueNumberOk c.number
    && (match c.anchor with | none => true | some p => bbgInRange p)
    && optAtMost 3 c.slot && optAtMost 30000 c.delayMs && optAtMost 3000 c.leadMs && optAtMost 10000 c.dwellMs
    && decide (c.pages.length ≤ 4)
    && c.pages.all (fun r => decide (r.lane ≤ 3) && decide (1 ≤ r.page) && decide (r.page ≤ Config.maxPages))

/-- The fields present agree with the kind (R23). -/
def cueFieldsOk (c : CueRecord) : Bool :=
  match c.kind with
  | .timed => c.anchor.isSome && c.slot.isNone && c.delayMs.isNone
  | .manual => c.slot.isNone && c.delayMs.isNone && c.leadMs.isNone && !c.essential && !c.cut
  | .stage => c.slot.isSome && c.delayMs.isNone && c.leadMs.isNone
  | .follow => c.slot.isNone && c.delayMs.isSome && c.leadMs.isNone

/-- No two page pairs name one lane (R24). -/
def lanesDistinct (c : CueRecord) : Bool := decide (c.pages.map (fun r => r.lane)).Nodup

/-- A pair put at its place among pairs in ascending lane order. -/
def insertRef (r : PageRef) : List PageRef → List PageRef
  | [] => [r]
  | q :: rest => if r.lane ≤ q.lane then r :: q :: rest else q :: insertRef r rest

/-- The pairs in ascending lane order (R24). -/
def sortRefs (rs : List PageRef) : List PageRef := rs.foldr insertRef []

/-- A cue put at its place in the list, in place of any cue of its number (R27). -/
def insertCue (c : Cue) : List Cue → List Cue
  | [] => [c]
  | d :: rest =>
    if c.record.number < d.record.number then c :: d :: rest
    else if c.record.number = d.record.number then c :: rest
    else d :: insertCue c rest

/-- The cue is carried by the change in flight, or by a commit report not yet taken (R28, log 9). -/
def State.cueInFlight (s : State) (n : Nat) : Bool :=
  (match s.change with
    | some c => (match c.firing with | some f => f.cue == n | none => false)
    | none => false)
    || s.reports.any (fun r => r.cue == n)

/-- A cue is in use when it is live or in flight (R28). -/
def State.cueInUse (s : State) (n : Nat) : Bool := s.sched.live.cue == some n || s.cueInFlight n

/-- The anchor's check and conversion (R26): none when there is no anchor. -/
def State.anchorOf (s : State) (c : CueRecord) : Except Status (Option Nat) :=
  match c.anchor with
  | none => .ok none
  | some p =>
    if s.meter = [] then .error .refusedState else
    match toGrains s.meter p with
    | none => .error .badArgument
    | some g => .ok (some g)

/-- The FOLLOW timer when the next cue is replaced (R31). -/
def State.followAfterLoad (s : State) (c : CueRecord) : Option FollowTimer :=
  if (s.cue? c.number).isSome && decide (s.sched.next = .cue c.number) then
    (if c.kind = .follow then some { count := 0, fresh := false } else none)
  else s.sched.follow

/-- A taken LOAD_CUE (R29 to R31). -/
def State.loadCue (s : State) (c : CueRecord) (anchorGrains : Option Nat) : State :=
  { s with
    cues := insertCue { record := { c with pages := sortRefs c.pages }, anchorGrains := anchorGrains } s.cues
    sched := { s.sched with follow := s.followAfterLoad c } }

/-- LOAD_CUE (R29). -/
def State.loadCueRequest (s : State) (c : CueRecord) : State × Status × ReplyBody :=
  if !cueRangesOk c || !cueFieldsOk c || !lanesDistinct c then refuse s .badArgument else
  match s.anchorOf c with
  | .error code => refuse s code
  | .ok grains =>
    if (s.cue? c.number).isSome && s.cueInUse c.number then refuse s .inUse
    else if (s.cue? c.number).isNone && decide (Config.maxCues ≤ s.cues.length) then refuse s .storeFull
    else
      let s1 := s.loadCue c grains
      (s1, .ok, .cueLoaded (s.cue? c.number).isNone s1.cues.length)

/-! ### DELETE_CUE (R32 to R34) -/

/-- A cue removed, with what that does to the pointer, the timer and the history. -/
def State.deleteCue (s : State) (n : Nat) : State :=
  let s1 := { s with
    cues := s.cues.filter (fun c => c.record.number != n)
    sched := { s.sched with history := s.sched.history.filter (fun m => m != n) } }
  if s.sched.next = .cue n then
    let next := s1.following n
    { s1 with sched := { s1.sched with next := next, follow := s1.followFor next } }
  else s1

/-- DELETE_CUE (R32). -/
def State.deleteCueRequest (s : State) (n : Nat) : State × Status × ReplyBody :=
  if (s.cue? n).isNone then refuse s .notFound
  else if s.cueInUse n then refuse s .inUse
  else
    let s1 := s.deleteCue n
    (s1, .ok, .cueCount s1.cues.length)

/-! ### READ_CUE (R35) -/

/-- The cue a READ_CUE reads. -/
def State.readTarget (s : State) (n : Nat) : ReadMode → Option Cue
  | .exactly => s.cue? n
  | .atOrAfter => s.cues.find? (fun c => decide (n ≤ c.record.number))

/-- What READ_CUE gives of a cue (R35). -/
def State.cueReading (s : State) (c : Cue) : CueReading :=
  { record := c.record, anchorGrains := c.anchorGrains
    live := s.sched.live.cue == some c.record.number
    inFlight := s.cueInFlight c.record.number
    next := decide (s.sched.next = .cue c.record.number)
    history := (s.sched.history.filter (fun m => m == c.record.number)).length
    count := s.cues.length }

/-- READ_CUE (R35). -/
def State.readCueRequest (s : State) (n : Nat) (mode : ReadMode) : State × Status × ReplyBody :=
  if !cueNumberOk n then refuse s .badArgument else
  match s.readTarget n mode with
  | none => refuse s .notFound
  | some c => (s, .ok, .cue (s.cueReading c))

/-! ### CLEAR_ACT (R36, R37) -/

/-- A taken CLEAR_ACT (R37). -/
def State.clearAct (s : State) : State :=
  ({ s with
      cues := [], meter := [], tracker := s.tracker.clear, pages := []
      sched := { s.sched with history := [], live := { s.sched.live with cue := none } }
    }.clearLatches).updScreens (fun _ c => { c with live := { c.live with found := false } })

/-- CLEAR_ACT (R36). -/
def State.clearActRequest (s : State) : State × Status × ReplyBody :=
  if s.sched.mode ≠ .idle then refuse s .refusedState
  else if s.flight then refuse s .busy
  else (s.clearAct, .ok, .empty)

/-! ### Meanings -/

/-- LOAD_METER (R2). -/
def execLoadMeter (entries : List MeterPair) (s : State) : Host.Outcome State Fault Refusal :=
  .next (s.take kLoadMeter formFree (fun s => s.loadMeterRequest entries))

/-- LOAD_CUE (R29). -/
def execLoadCue (record : CueRecord) (s : State) : Host.Outcome State Fault Refusal :=
  .next (s.take kLoadCue (formCue record) (fun s => s.loadCueRequest record))

/-- DELETE_CUE (R32). -/
def execDeleteCue (n : Nat) (s : State) : Host.Outcome State Fault Refusal :=
  .next (s.take kDeleteCue formFree (fun s => s.deleteCueRequest n))

/-- READ_CUE (R35). -/
def execReadCue (n : Nat) (mode : ReadMode) (s : State) : Host.Outcome State Fault Refusal :=
  .next (s.take kReadCue formFree (fun s => s.readCueRequest n mode))

/-- CLEAR_ACT (R37). -/
def execClearAct (s : State) : Host.Outcome State Fault Refusal :=
  .next (s.take kClearAct formEmpty State.clearActRequest)

end Sys2Proof.Machine
end

