-- ==== Sys2Proof/Machine/Beat.lean ====
section
/-!
DEFINITION. The commands of the Position Tracker (01): SYNC, SET_TEMPO, TAP, BEAT_PULSE, CLAMP_EXPIRY and
LOSS_EXPIRY.
-/

namespace Sys2Proof.Machine

/-- SYNC as a request: the confirmed position after it in the reply body (R17, R150). -/
def State.syncReply (s : State) (p : Bbg) : State × Status × ReplyBody :=
  let r := s.syncRequest p
  (r.1, r.2.1, .position r.2.2)

/-- SET_TEMPO (R18). An OK reply carries the tempo used as an ADJUSTED one does (log 57). -/
def State.setTempoRequest (s : State) (bpm10 : Nat) : State × Status × ReplyBody :=
  let used := limitTempo bpm10
  ({ s with tracker := s.tracker.setTempo used s.showClock }, if used = bpm10 then .ok else .adjusted,
    .tempo used)

/-- TAP (R10): a pulse at the time it is taken, unless BEAT_SOURCE is LINE. -/
def State.tapRequest (s : State) : State × Status × ReplyBody :=
  let r := if s.params.beatSource = .line then (s, PulseOutcome.ignored) else s.pulse
  (r.1, .ok, .tap r.2 (r.1.tracker.modeAt r.1.showClock) (r.1.positionAt r.1.showClock))

/-- A rising edge on BEAT (R9, R11): ignored in a reset period and while BEAT_SOURCE is TAP. -/
def State.beatPulse (s : State) : State :=
  if s.inReset || decide (s.params.beatSource = .tap) then s else s.pulse.1

/-- The clamp expiry (R7). -/
def State.clampExpires (s : State) : State :=
  if s.tracker.mode = .following ∧ s.tracker.clamped s.showClock = true then
    { s with tracker := { s.tracker with mode := .waiting } }
  else s

/-- The tracker at its loss expiry (R8). -/
def Tracker.lose (tr : Tracker) : Tracker := { tr with mode := .lost, lossOpen := true }

/-- The loss expiry (R8): due in FOLLOWING and WAITING. -/
def State.lossExpires (s : State) : State :=
  if (s.tracker.mode = .following ∨ s.tracker.mode = .waiting)
      ∧ s.tracker.lossDue s.params.lossBeats s.showClock = true then
    let s1 := { s with tracker := s.tracker.lose }
    s1.post (.beatLost (s1.fullPositionAt s1.showClock) s1.tracker.tempo)
  else s

/-! ### Meanings -/

/-- SYNC (R17). -/
def execSync (pos : Bbg) (s : State) : Host.Outcome State Fault Refusal :=
  .next (s.take kSync formFree (fun s => s.syncReply pos))

/-- SET_TEMPO (R18). -/
def execSetTempo (bpm10 : Nat) (s : State) : Host.Outcome State Fault Refusal :=
  .next (s.take kSetTempo formFree (fun s => s.setTempoRequest bpm10))

/-- TAP (R10). -/
def execTap (s : State) : Host.Outcome State Fault Refusal := .next (s.take kTap formEmpty State.tapRequest)

/-- BEAT_PULSE (R11). -/
def execBeatPulse (s : State) : Host.Outcome State Fault Refusal := .next s.beatPulse

/-- CLAMP_EXPIRY (R7). -/
def execClampExpiry (s : State) : Host.Outcome State Fault Refusal := .next s.clampExpires

/-- LOSS_EXPIRY (R8). -/
def execLossExpiry (s : State) : Host.Outcome State Fault Refusal := .next s.lossExpires

end Sys2Proof.Machine
end

