-- ==== Sys2Proof/Machine/Screens.lean ====
section
/-!
DEFINITION. Pages, screens and overrides (04) and blackout and lift (06), as requests; and the meanings of
LOAD_PAGE, DELETE_PAGE, SET_SCREEN, SHOW_PAGE, CLEAR_OVERRIDE, GROUP_HOLD, GROUP_RELEASE, BLACKOUT, LIFT.
-/

namespace Sys2Proof.Machine

/-! ### The page store (R65 to R68) -/

/-- A page put at its place in the store, in place of any page of its id. -/
def insertPage (p : Page) : List Page → List Page
  | [] => [p]
  | q :: rest =>
    if p.id < q.id then p :: q :: rest
    else if p.id = q.id then p :: rest
    else q :: insertPage p rest

/-- A page id a page can have. -/
def pageIdOk (id : Nat) : Bool := decide (1 ≤ id) && decide (id ≤ Config.maxPages)

/-- The first two checks of LOAD_PAGE (R67). -/
def pageOk (p : Page) : Bool :=
  pageIdOk p.id && decide (p.lane ≤ 3) && decide (1 ≤ p.lines.length) && decide (p.lines.length ≤ 3)
    && p.lines.all (fun l => decide (l.length ≤ 96) && l.all (fun g => decide (0x20 ≤ g.toNat)))

/-- The glyphs of the page of an id, 0 when the store holds none. -/
def State.glyphsOf (s : State) (id : Nat) : Nat :=
  match s.page? id with
  | some p => pageGlyphs p
  | none => 0

/-- LOAD_PAGE (R67). -/
def State.loadPageRequest (s : State) (p : Page) : State × Status × ReplyBody :=
  if !pageOk p then refuse s .badArgument
  else if (s.page? p.id).isSome && s.pageInUse p.id then refuse s .inUse
  else if Config.glyphPool < poolUse s.pages - s.glyphsOf p.id + pageGlyphs p then refuse s .storeFull
  else
    let s1 := { s with pages := insertPage p s.pages }
    (s1, .ok, .pageLoaded (s.page? p.id).isNone (poolUse s1.pages))

/-- DELETE_PAGE (R68). -/
def State.deletePageRequest (s : State) (id : Nat) : State × Status × ReplyBody :=
  if !pageIdOk id then refuse s .badArgument
  else if (s.page? id).isNone then refuse s .notFound
  else if s.pageInUse id then refuse s .inUse
  else
    let s1 := { s with pages := s.pages.filter (fun p => p.id != id) }
    (s1, .ok, .glyphs (poolUse s1.pages))

/-! ### The screen map (R69, R70) -/

/-- The ranges of an enabled configuration (R70). -/
def setupOk (c : ScreenSetup) : Bool :=
  decide (c.lane ≤ 3) && decide (1 ≤ c.tiles.length) && decide (c.tiles.length ≤ 8)
    && c.tiles.all (fun a => decide (1 ≤ a) && decide (a ≤ 16)) && decide c.tiles.Nodup
    && decide (8 ≤ c.cpt) && decide (c.cpt ≤ 64)

/-- An address of the list belongs to another screen. -/
def State.tileTaken (s : State) (i : Fin 4) (c : ScreenSetup) : Bool :=
  c.tiles.any (fun a => fourNumbers.any (fun j => j != i && (s.screens.get j).tiles.contains a))

/-- The checks of a configuration, which a disabled screen passes. -/
def State.setupTaken (s : State) (i : Fin 4) : Option ScreenSetup → Bool
  | none => true
  | some c => setupOk c && !s.tileTaken i c

/-- The cue source the live cue record gives a lane (R70). -/
def State.liveSource (s : State) (lane : Nat) : CueSource :=
  match s.sched.live.cue with
  | none => .blank none
  | some n =>
    match s.cue? n with
    | some c => cueSourceOf c.record lane
    | none => .blank (some n)

/-- A screen set afresh (R70); its kept segments go (R102). -/
def State.freshScreen (s : State) (c : Screen) (setup : Option ScreenSetup) : Screen :=
  { c with
    setup := setup
    cueSource := match setup with | some u => s.liveSource u.lane | none => .blank none
    override := none, live := { source := .blank none, found := false }, pendingShown := none, liveTag := 0
    edit := none, initialBlank := setup.isSome, kept := [] }

/-- A tile put into a screen or taken out of one (R103). -/
def Tile.assigned (t : Tile) : Tile :=
  { t with state := .unknown, lastTag := none, repairDue := false, repairTag := none, heldTags := [] }

/-- A taken SET_SCREEN (R70, R103); the addresses of the old and of the new list become UNKNOWN (log 15). -/
def State.setScreen (s : State) (i : Fin 4) (setup : Option ScreenSetup) : State :=
  let touched := (s.screens.get i).tiles ++ (match setup with | some u => u.tiles | none => [])
  ((s.updScreen i (fun c => s.freshScreen c setup)).updTiles
    (fun t => if touched.contains t.address then t.assigned else t)).composeWork

/-- SET_SCREEN (R70). -/
def State.setScreenRequest (s : State) (n : Nat) (setup : Option ScreenSetup) :
    State × Status × ReplyBody :=
  if s.sched.mode ≠ .idle then refuse s .refusedState
  else if s.flight then refuse s .busy
  else match fourth? n with
  | none => refuse s .badArgument
  | some i => if s.setupTaken i setup then (s.setScreen i setup, .ok, .empty) else refuse s .badArgument

/-! ### Overrides (R81 to R83) -/

/-- The enabled screens that show a lane. -/
def State.screensOfLane (s : State) (lane : Nat) : List (Fin 4) :=
  s.enabled.filter (fun i => match (s.screens.get i).setup with
    | some u => u.lane == lane
    | none => false)

/-- The screens a place names, with the lane it stands for, or the code of the check that fails (R81). -/
def State.placeScreens (s : State) : Place → Except Status (List (Fin 4) × Nat)
  | .screen n =>
    match fourth? n with
    | none => .error .badArgument
    | some i =>
      match (s.screens.get i).setup with
      | none => .error .refusedState
      | some u => .ok ([i], u.lane)
  | .lane n =>
    if 3 < n then .error .badArgument
    else if (s.screensOfLane n).isEmpty then .error .notFound
    else .ok (s.screensOfLane n, n)

/-- How an edit stands as it is put into the override set (R81): under group hold also during a flight (log 71). -/
def State.standing (s : State) : EditStanding :=
  if s.groupHold then .grouped else if s.change.isSome then .waits else .issued

/-- An edit put into the override set for some screens, and issued as R76 gives. -/
def State.putEdit (s : State) (which : List (Fin 4)) (edit : OverrideEdit) : State :=
  (s.updScreens (fun i c => if which.contains i then { c with edit := some edit } else c)).composeWork

/-- SHOW_PAGE (R81). The place's own range is checked with the page id's. -/
def State.showPageRequest (s : State) (page : Nat) (place : Place) : State × Status × ReplyBody :=
  if !pageIdOk page then refuse s .badArgument else
  match s.placeScreens place with
  | .error code => refuse s code
  | .ok (which, lane) =>
    match s.page? page with
    | none => refuse s .notFound
    | some p =>
      if p.lane ≠ lane then refuse s .badArgument
      else
        let clipped := which.filter (fun i => match (s.screens.get i).setup with
          | some u => clipsOn u p
          | none => false)
        (s.putEdit which (.set page), .ok, .edit s.standing clipped)

/-- CLEAR_OVERRIDE (R82). -/
def State.clearOverrideRequest (s : State) (place : Place) : State × Status × ReplyBody :=
  match s.placeScreens place with
  | .error code => refuse s code
  | .ok (which, _) => (s.putEdit which .clear, .ok, .edit s.standing [])

/-- GROUP_HOLD (R83). -/
def State.groupHoldRequest (s : State) : State × Status × ReplyBody :=
  ({ s with groupHold := true }, .ok, .empty)

/-- GROUP_RELEASE (R83). -/
def State.groupReleaseRequest (s : State) : State × Status × ReplyBody :=
  if s.groupHold then ({ s with groupHold := false }.composeWork, .ok, .empty) else refuse s .refusedState

/-! ### Blackout and lift (R110, R113) -/

/-- The blackout flag set or cleared. -/
def State.setBlackout (s : State) (on : Bool) : State := { s with sched := { s.sched with blackout := on } }

/-- What a superseded change's firing carried, where a change is superseded. -/
def State.superseded (s : State) : Option (Option Nat) :=
  s.change.map (fun c => c.firing.map (fun f => f.cue))

/-- BLACKOUT (R110). -/
def State.blackoutRequest (s : State) : State × Status × ReplyBody :=
  if s.sched.blackout then (s, .ok, .dark .alreadyDark)
  else ((s.setBlackout true).buildBlackout, .ok, .dark (.darkened s.superseded))

/-- LIFT (R113). -/
def State.liftRequest (s : State) : State × Status × ReplyBody :=
  if s.sched.blackout then
    ((s.setBlackout false).restoreAll.composeWork, .ok, .lifted s.change.isNone)
  else refuse s .refusedState

/-! ### Meanings -/

/-- LOAD_PAGE (R67). -/
def execLoadPage (page : Page) (s : State) : Host.Outcome State Fault Refusal :=
  .next (s.take kLoadPage (formPage page) (fun s => s.loadPageRequest page))

/-- DELETE_PAGE (R68). -/
def execDeletePage (id : Nat) (s : State) : Host.Outcome State Fault Refusal :=
  .next (s.take kDeletePage formFree (fun s => s.deletePageRequest id))

/-- SET_SCREEN (R70). -/
def execSetScreen (n : Nat) (setup : Option ScreenSetup) (s : State) : Host.Outcome State Fault Refusal :=
  .next (s.take kSetScreen formFree (fun s => s.setScreenRequest n setup))

/-- SHOW_PAGE (R81). -/
def execShowPage (page : Nat) (place : Place) (s : State) : Host.Outcome State Fault Refusal :=
  .next (s.take kShowPage formFree (fun s => s.showPageRequest page place))

/-- CLEAR_OVERRIDE (R82). -/
def execClearOverride (place : Place) (s : State) : Host.Outcome State Fault Refusal :=
  .next (s.take kClearOverride formFree (fun s => s.clearOverrideRequest place))

/-- GROUP_HOLD (R83). -/
def execGroupHold (s : State) : Host.Outcome State Fault Refusal :=
  .next (s.take kGroupHold formEmpty State.groupHoldRequest)

/-- GROUP_RELEASE (R83). -/
def execGroupRelease (s : State) : Host.Outcome State Fault Refusal :=
  .next (s.take kGroupRelease formEmpty State.groupReleaseRequest)

/-- BLACKOUT (R110). -/
def execBlackout (s : State) : Host.Outcome State Fault Refusal :=
  .next (s.take kBlackout formEmpty State.blackoutRequest)

/-- LIFT (R113). -/
def execLift (s : State) : Host.Outcome State Fault Refusal :=
  .next (s.take kLift formEmpty State.liftRequest)

end Sys2Proof.Machine
end

