-- ==== Sys2Proof/Machine/Stage.lean ====
section
/-!
DEFINITION. Stage cue listeners (08): the show-control receiver, matching, actions and their notices, the
slot requests, and the meanings of SET_LISTENER, CLEAR_LISTENER, READ_LISTENER, SHOW_FRAME,
SHOW_FRAME_FAILS, SHOW_BYTE_GAP_EXPIRY and REFRACTORY_EXPIRY.
-/

namespace Sys2Proof.Machine

/-! ### Slot requests (R143 to R145) -/

/-- A position put at its place among positions in ascending order. -/
def insertPosition (p : Nat) : List Nat → List Nat
  | [] => [p]
  | q :: rest => if p ≤ q then p :: q :: rest else q :: insertPosition p rest

/-- The positions in ascending order. -/
def sortPositions (ps : List Nat) : List Nat := ps.foldr insertPosition []

/-- The list of positions (R143). -/
def positionsOk (ps : List Nat) : Bool :=
  decide (1 ≤ ps.length) && decide (ps.length ≤ 32) && ps.all (fun p => decide (p ≤ 31)) && decide ps.Nodup

/-- An argument is present exactly when the action is SYNC, and lies within its ranges (R143). -/
def argumentOk (action : SlotAction) (argument : Option Bbg) : Bool :=
  match argument with
  | some p =>
    decide (action = .sync) && decide (1 ≤ p.bar) && decide (p.bar ≤ Config.lastBar) && decide (1 ≤ p.beat)
      && decide (p.beat ≤ 16) && decide (p.grain ≤ 191)
  | none => decide (action ≠ .sync)

/-- The SYNC argument's checks against the map (R143): the code of the one that fails. -/
def State.argumentRefusal (s : State) : Option Bbg → Option Status
  | none => none
  | some p =>
    if s.meter = [] then some .refusedState
    else if (toGrains s.meter p).isNone then some .badArgument
    else none

/-- A taken SET_LISTENER (R143), the refractory time in range. -/
def State.setSlot (s : State) (i : Fin 4) (action : SlotAction) (l : ListenerSetup) : State :=
  s.updSlot i (fun _ =>
    { setup := some { positions := sortPositions l.positions, expected := l.expected, action := action
                      argument := l.argument, refractoryMs := min l.refractoryMs 2000 }
      latch := false, refractoryEnd := none })

/-- SET_LISTENER (R143). An OK reply carries the refractory time as an ADJUSTED one does (log 57). -/
def State.setListenerRequest (s : State) (n : Nat) (l : ListenerSetup) : State × Status × ReplyBody :=
  match fourth? n, l.action with
  | some i, some action =>
    if !positionsOk l.positions || !argumentOk action l.argument then refuse s .badArgument else
    match s.argumentRefusal l.argument with
    | some code => refuse s code
    | none =>
      (s.setSlot i action l, if l.refractoryMs ≤ 2000 then .ok else .adjusted,
        .refractory (min l.refractoryMs 2000))
  | _, _ => refuse s .badArgument

/-- CLEAR_LISTENER (R144). -/
def State.clearListenerRequest (s : State) (n : Nat) : State × Status × ReplyBody :=
  match fourth? n with
  | some i => (s.updSlot i (fun _ => Slot.fresh), .ok, .empty)
  | none => refuse s .badArgument

/-- The ms left until a refractory end, rounded up (R145): the end lies at most 2,000 ms ahead (R143), and once
it has come none are left. -/
def msLeft (now : ShowTime) (due : ShowTime) : Nat :=
  if elapsed due now ≤ 2000000 then ceilDiv (elapsed due now) 1000 else 0

/-- READ_LISTENER (R145). -/
def State.readListenerRequest (s : State) (n : Nat) : State × Status × ReplyBody :=
  match fourth? n with
  | some i =>
    let sl := s.listener.slots.get i
    (s, .ok, .slot { setup := sl.setup, latch := sl.latch
                     refractoryMsLeft := sl.refractoryEnd.map (msLeft s.showClock) })
  | none => refuse s .badArgument

/-! ### Actions (R148) -/

/-- A request's outcome as a listener action's. -/
def outcomeFor (code : Status) : MatchOutcome :=
  match code with
  | .ok => .taken .ok
  | .adjusted => .taken .adjusted
  | c => .refused c

/-- The detail of a request's reply body (R150). -/
def detailOf (code : Status) (body : ReplyBody) : MatchDetail :=
  match replyBodyFor code body with
  | .goFired n => .fired n
  | .goPending => .pending
  | .dark a => .dark a
  | .lifted issued => .lift issued
  | .position g => .sync g
  | _ => .none

/-- A request delivered as an action. -/
def delivered (r : State × Status × ReplyBody) : State × MatchOutcome × MatchDetail :=
  (r.1, outcomeFor r.2.1, detailOf r.2.1 r.2.2)

/-- The SYNC action, its argument converted against the map as it stands. -/
def State.syncAction (s : State) (argument : Option Bbg) : State × Status × ReplyBody :=
  match argument with
  | some p =>
    let r := s.syncRequest p
    (r.1, r.2.1, .position r.2.2)
  | none => refuse s .badArgument

/-- FIRE_STAGE (R148, R149). -/
def State.latchAction (s : State) (i : Fin 4) : State × MatchOutcome × MatchDetail :=
  if (s.listener.slots.get i).latch then (s, .alreadyLatched, .none)
  else (s.updSlot i (fun sl => { sl with latch := true }), .latched, .none)

/-- The action of a matched slot taken (R148): ignored while the scheduler is IDLE. -/
def State.deliver (s : State) (i : Fin 4) (setup : SlotSetup) : State × MatchOutcome × MatchDetail :=
  if s.sched.mode = .idle then (s, .ignored, .none) else
  match setup.action with
  | .fireStage => s.latchAction i
  | .go => delivered s.goRequest
  | .hold => delivered s.holdRequest
  | .release => delivered s.releaseRequest
  | .blackout => delivered s.blackoutRequest
  | .lift => delivered s.liftRequest
  | .sync => delivered (s.syncAction setup.argument)

/-! ### Matching a frame (R146) -/

/-- The bytes of a body at some positions; none when the body does not hold them all. -/
def selectedBytes (body : List Byte) (positions : List Nat) : Option (List Byte) :=
  positions.mapM (fun p => body[p]?)

/-- An enabled slot's first two conditions: the body holds every selected position, and the check over them
is the expected one. -/
def slotSelects (setup : SlotSetup) (body : List Byte) : Bool :=
  match selectedBytes body setup.positions with
  | some bytes => decide (crc bytes = setup.expected)
  | none => false

/-- The refractory end a match sets (R146). -/
def refractoryFrom (arrival : ShowTime) (ms : Nat) : Option ShowTime :=
  if ms = 0 then none else some (later arrival (ms * 1000))

/-- A slot matched by a frame: its refractory time starts, its action is delivered, and LISTENER_MATCH is
posted (R146, R150), with the sweep timer's last number (log 62). -/
def State.matched (s : State) (i : Fin 4) (setup : SlotSetup) (arrival : ShowTime) : State :=
  let s1 := s.updSlot i (fun sl => { sl with refractoryEnd := refractoryFrom arrival setup.refractoryMs })
  let r := s1.deliver i setup
  r.1.post (.listenerMatch i setup.action r.2.1 r.2.2 arrival r.1.bus.sweepNumber)

/-- One slot tried against an accepted frame (R146). -/
def State.trySlot (body : List Byte) (arrival : ShowTime) (s : State) (i : Fin 4) : State :=
  let sl := s.listener.slots.get i
  match sl.setup with
  | none => s
  | some setup => if slotSelects setup body && sl.refractoryEnd.isNone then s.matched i setup arrival else s

/-- An accepted frame tried against the slots, 0 to 3. -/
def State.handleFrame (s : State) (body : List Byte) : State :=
  fourNumbers.foldl (State.trySlot body s.showClock) s

/-! ### The receiver (R140, R141) -/

/-- What a byte brings about in a receiver: nothing further, a failure on the way in, or a frame taken. -/
inductive Taken (α : Type) where
  | more
  | fails
  | whole (a : α)
deriving DecidableEq, Repr

/-- The receiver with one byte more. -/
def ShowReceiver.push (r : ShowReceiver) (phase : ShowPhase) (b : Byte) : ShowReceiver :=
  { r with phase := phase, bytes := r.bytes ++ [b] }

/-- A byte with its stop bit taken by the receiver (R140, R141). -/
def ShowReceiver.take (r : ShowReceiver) (b : Byte) : ShowReceiver × Taken (List Byte) :=
  match r.phase with
  | .hunt => if b = 0xD7 then ({ r with phase := .length, length := 0, bytes := [] }, .more) else (r, .more)
  | .length =>
    if 1 ≤ b.toNat ∧ b.toNat ≤ 64 then ({ r.push .body b with length := b.toNat }, .more)
    else (ShowReceiver.fresh, .fails)
  | .body =>
    let r1 := r.push .body b
    (if r1.bytes.length = r.length + 1 then { r1 with phase := .check } else r1, .more)
  | .check =>
    let r1 := r.push .check b
    if r1.bytes.length < r.length + 3 then (r1, .more)
    else
      let covered := r1.bytes.take (r.length + 1)
      if r1.bytes.drop (r.length + 1) = checkBytes (crc covered) then
        (ShowReceiver.fresh, .whole (covered.drop 1))
      else (ShowReceiver.fresh, .fails)

/-- The receiver set. -/
def State.setShowReceiver (s : State) (r : ShowReceiver) : State :=
  { s with listener := { s.listener with receiver := r } }

/-- More than 2 ms have passed since the last byte of the frame in hand (R141). -/
def State.showGap (s : State) : Bool :=
  decide (s.listener.receiver.phase ≠ .hunt)
    && decide (2000 < elapsed s.showClock s.listener.receiver.lastByte)

/-- The frame in hand dropped, with the show-control error flag (R141). -/
def State.dropShowFrame (s : State) : State := (s.setShowReceiver ShowReceiver.fresh).raiseShowError

/-- A byte from SHOW_RXD, the 2 ms counted (R140, R141). -/
def State.showByte (s : State) (b : LineByte) : State :=
  let s := if s.showGap then s.dropShowFrame else s
  if !b.stopBit then s.dropShowFrame
  else
    let r := s.listener.receiver.take b.byte
    let s1 := s.setShowReceiver { r.1 with lastByte := s.showClock }
    match r.2 with
    | .more => s1
    | .fails => s1.raiseShowError
    | .whole body => s1.handleFrame body

/-- Bytes from SHOW_RXD; those of a reset period are discarded (R142). -/
def State.showBytes (s : State) (bytes : List LineByte) : State :=
  if s.inReset then s else bytes.foldl State.showByte s

/-! ### Meanings -/

/-- SET_LISTENER (R143). -/
def execSetListener (slot : Nat) (setup : ListenerSetup) (s : State) : Host.Outcome State Fault Refusal :=
  .next (s.take kSetListener formFree (fun s => s.setListenerRequest slot setup))

/-- CLEAR_LISTENER (R144). -/
def execClearListener (slot : Nat) (s : State) : Host.Outcome State Fault Refusal :=
  .next (s.take kClearListener formFree (fun s => s.clearListenerRequest slot))

/-- READ_LISTENER (R145). -/
def execReadListener (slot : Nat) (s : State) : Host.Outcome State Fault Refusal :=
  .next (s.take kReadListener formFree (fun s => s.readListenerRequest slot))

/-- SHOW_FRAME (R140, R146): bytes taken from SHOW_RXD, the last of which completes a frame. -/
def execShowFrame (bytes : List LineByte) (s : State) : Host.Outcome State Fault Refusal :=
  .next (s.showBytes bytes)

/-- SHOW_FRAME_FAILS (R141): bytes taken from SHOW_RXD, the last of which drops a frame. -/
def execShowFrameFails (bytes : List LineByte) (s : State) : Host.Outcome State Fault Refusal :=
  .next (s.showBytes bytes)

/-- SHOW_BYTE_GAP_EXPIRY (R141). -/
def execShowByteGapExpiry (s : State) : Host.Outcome State Fault Refusal :=
  if s.showGap && !s.inReset then .next s.dropShowFrame else .next s

/-- REFRACTORY_EXPIRY (R147): the slot's refractory end has come. The command is the event, however late it is
taken; it is not found by comparing clock readings (log 61). -/
def execRefractoryExpiry (slot : Nat) (s : State) : Host.Outcome State Fault Refusal :=
  match fourth? slot with
  | none => .next s
  | some i =>
    .next (s.updSlot i (fun sl => { sl with refractoryEnd := none }))

end Sys2Proof.Machine
end

