-- ==== Sys2Proof/Machine/Control.lean ====
section
/-!
DEFINITION. The Control Port (10): the record receiver, the request queue and the reply path, the
transmitter's start, IDENTIFY, STATUS, parameters and RESTART; and the meanings of those commands.
-/

namespace Sys2Proof.Machine

/-! ### The record receiver (R162, R163) -/

/-- The receiver with one byte more. -/
def CtlReceiver.push (r : CtlReceiver) (phase : CtlPhase) (b : Byte) : CtlReceiver :=
  { r with phase := phase, bytes := r.bytes ++ [b] }

/-- The record that the covered bytes (length, kind, body) spell. -/
def recordOf (covered : List Byte) : Record :=
  { kind := covered.getD 2 0, body := covered.drop 3 }

/-- A byte with its stop bit taken by the receiver (R162, R163). -/
def CtlReceiver.take (r : CtlReceiver) (b : Byte) : CtlReceiver × Taken Record :=
  match r.phase with
  | .hunt => if b = 0xC3 then ({ r with phase := .length, length := 0, bytes := [] }, .more) else (r, .more)
  | .length =>
    let r1 := r.push .length b
    if r1.bytes.length < 2 then (r1, .more)
    else if 1 ≤ natOf r1.bytes ∧ natOf r1.bytes ≤ 1001 then
      ({ r1 with phase := .kind, length := natOf r1.bytes }, .more)
    else (CtlReceiver.fresh, .fails)
  | .kind => (r.push (if 1 < r.length then .body else .check) b, .more)
  | .body =>
    let r1 := r.push .body b
    (if r1.bytes.length = r.length + 2 then { r1 with phase := .check } else r1, .more)
  | .check =>
    let r1 := r.push .check b
    if r1.bytes.length < r.length + 4 then (r1, .more)
    else
      let covered := r1.bytes.take (r.length + 2)
      if r1.bytes.drop (r.length + 2) = checkBytes (crc covered) then
        (CtlReceiver.fresh, .whole (recordOf covered))
      else (CtlReceiver.fresh, .fails)

/-- The FULL answers in the reply path. -/
def ControlPort.fullAnswers (p : ControlPort) : Nat := (p.replies.filter (fun r => !r.taken)).length

/-- An accepted record (R165, R167): queued, answered FULL, or discarded with the line-error flag. -/
def ControlPort.accept (p : ControlPort) (r : Record) : ControlPort :=
  if p.requests.length < Config.queueDepth then { p with requests := p.requests ++ [r] }
  else if p.fullAnswers < Config.maxFullAnswers then
    { p with replies := p.replies ++ [{ kind := replyKind r.kind, taken := false, status := .full
                                        body := .empty }] }
  else p.raiseLineError

/-- The control port's part replaced. -/
def State.setPort (s : State) (p : ControlPort) : State := { s with port := p }

/-- More than 2 ms have passed since the last byte of the record in hand (R163). -/
def ControlPort.gap (p : ControlPort) (now : ShowTime) : Bool :=
  decide (p.receiver.phase ≠ .hunt) && decide (2000 < elapsed now p.receiver.lastByte)

/-- The record in hand dropped, with the line-error flag (R163). -/
def ControlPort.dropRecord (p : ControlPort) : ControlPort :=
  { p with receiver := CtlReceiver.fresh }.raiseLineError

/-- A byte from CTL_RXD, the 2 ms counted (R162, R163). -/
def ControlPort.byte (now : ShowTime) (p : ControlPort) (b : LineByte) : ControlPort :=
  let p := if p.gap now then p.dropRecord else p
  if !b.stopBit then p.dropRecord
  else
    let r := p.receiver.take b.byte
    let p1 := { p with receiver := { r.1 with lastByte := now } }
    match r.2 with
    | .more => p1
    | .fails => p1.raiseLineError
    | .whole record => p1.accept record

/-! ### The transmitter (R168 to R170) -/

/-- The free transmitter starts the head reply, else the oldest notice. -/
def State.transmitStarts (s : State) : State :=
  if s.inReset || s.port.sending.isSome then s else
  match s.port.replies, s.port.notices with
  | r :: rest, _ =>
    s.setPort { s.port.reportFlags with replies := rest, sending := some (.reply r s.statusWord) }
  | [], n :: rest => s.setPort { s.port with notices := rest, sending := some (.notice n) }
  | [], [] => s

/-! ### IDENTIFY and STATUS (R172, R173) -/

/-- The limits of the parameters, by id from 1 to 18 (R172, 10 section 10.8). -/
def paramLimits : List ParamLimit :=
  [.range 10 40, .codes 3, .members [1, 2, 3, 4, 6, 8], .range 1 16, .range 2 8, .range 0 3000,
    .range 0 10000, .range 0 100, .range 1 8, .codes 2, .range 0 250, .codes 2, .codes 2, .codes 2,
    .range 1 50, .codes 2, .range 0 16, .range 50 90]

/-- What IDENTIFY gives (R172). -/
def State.identity (s : State) : IdentifyReport :=
  { vendor := Config.vendor, partName := "PT-460", revision := Config.revision, rate := s.port.rate
    cues := Config.maxCues, pages := Config.maxPages, glyphs := Config.glyphPool
    meterEntries := Config.maxMeter, screens := 4, tiles := 16, lanes := 4, slots := 4
    history := Config.historyDepth, requestQueue := Config.queueDepth, noticeQueue := Config.noticeDepth
    grainsPerBeat := Config.beatGrains, limits := paramLimits }

/-- One tile of STATUS. -/
def State.tileReport (s : State) (t : Tile) : TileReport :=
  { screen := s.screenOf t.address, state := t.state, presence := t.presence, capacity := t.capacity }

/-- The live cue record as STATUS gives it: without a live cue the number, its commit sweep and its trigger
are all absent (R173), 0 and 0xFF in the record's bytes. -/
def LiveRecord.reported (l : LiveRecord) : LiveRecord :=
  if l.cue.isSome then l else { cue := none, sweep := 0, trigger := none }

/-- What STATUS gives (R173). The request itself has left the queue. -/
def State.statusReport (s : State) : StatusReport :=
  { trackerMode := s.tracker.modeAt s.showClock, position := s.fullPositionAt s.showClock
    tempo := s.tracker.tempo, schedMode := s.sched.mode, live := s.sched.live.reported, next := s.sched.next
    history := s.sched.history.length, blackout := s.sched.blackout, owner := s.own.state
    peerNumber := s.mirror.number, peerLink := s.mirror.link, mirrorCurrent := s.mirror.current
    link := if s.drives then some s.bus.link else none
    peerQuiet := decide (s.mirror.link ≠ .active), sweep := s.bus.sweepNumber, inFlight := s.change.isSome
    tiles := s.bus.tiles.map s.tileReport, cues := s.cues.length, meterEntries := s.meter.length
    pages := s.pages.length, glyphs := poolUse s.pages, requests := s.port.requests.length
    notices := s.port.notices.length, resetCause := s.resetUnit.cause, resetShowSafe := s.resetUnit.showSafe
    lineTest := s.lineTest.last }

/-! ### Parameters (R174, R175) -/

/-- A value brought into a range. -/
def clampTo (least greatest v : Nat) : Nat := max least (min v greatest)

/-- A PULSES_PER_BEAT brought down to a member (R174). -/
def ppbMember (v : Nat) : Nat :=
  if 8 ≤ v then 8 else if 6 ≤ v then 6 else if 4 ≤ v then 4 else if 3 ≤ v then 3 else if 2 ≤ v then 2 else 1

/-- OK when the value is taken as given, else ADJUSTED. -/
def takenAs (given used : Nat) : Status := if given = used then .ok else .adjusted

/-- The parameters replaced. -/
def State.setParams (s : State) (p : Params) : State := { s with params := p }

/-- A numeric parameter set (R174): `put` writes the value taken. -/
def State.setNumber (s : State) (id least greatest v : Nat) (put : Params → Nat → Params) :
    State × Status × ReplyBody :=
  let used := clampTo least greatest v
  (s.setParams (put s.params used), takenAs v used, .param id used none)

/-- An off/on parameter set (R174). -/
def State.setSwitch (s : State) (id v : Nat) (put : Params → Bool → Params) :
    State × Status × ReplyBody :=
  if v ≤ 1 then (s.setParams (put s.params (v == 1)), .ok, .param id v none) else refuse s .badArgument

/-- BEAT_SOURCE by its code. -/
def beatSourceOf : Nat → Option BeatSource
  | 0 => some .line
  | 1 => some .tap
  | 2 => some .both
  | _ => none

/-- PARTIAL_POLICY by its code. -/
def partialPolicyOf : Nat → Option PartialPolicy
  | 0 => some .showTorn
  | 1 => some .blankScreen
  | _ => none

/-- PULSES_PER_BEAT set (R15, R174). -/
def State.setPulses (s : State) (v : Nat) : State × Status × ReplyBody :=
  let used := ppbMember v
  let tr := s.tracker.setPpb used
  ({ s with tracker := tr }, takenAs v used, .param 3 used (some (tr.ppb, tr.pendingPpb.isSome)))

/-- BUS_REQUEST set: a value taken acts on the REQUEST line at once (R121). -/
def State.setBusRequest (s : State) (v : Nat) : State × Status × ReplyBody :=
  if v ≤ 1 then
    ({ s with params := { s.params with busRequest := v == 1 }, own := { s.own with request := v == 1 } }, .ok,
      .param 12 v none)
  else refuse s .badArgument

/-- SET_PARAM (R174). -/
def State.setParamRequest (s : State) (id v : Nat) : State × Status × ReplyBody :=
  match id with
  | 1 => s.setNumber 1 10 40 v (fun p n => { p with sweepPeriod := n })
  | 2 =>
    match beatSourceOf v with
    | some b => (s.setParams { s.params with beatSource := b }, .ok, .param 2 v none)
    | none => refuse s .badArgument
  | 3 => s.setPulses v
  | 4 => s.setNumber 4 1 16 v (fun p n => { p with followGain := n })
  | 5 => s.setNumber 5 2 8 v (fun p n => { p with lossBeats := n })
  | 6 => s.setNumber 6 0 3000 v (fun p n => { p with defaultLead := n })
  | 7 => s.setNumber 7 0 10000 v (fun p n => { p with defaultDwell := n })
  | 8 => s.setNumber 8 0 100 v (fun p n => { p with tileLatency := n })
  | 9 => s.setNumber 9 1 8 v (fun p n => { p with graceSweeps := n })
  | 10 =>
    match partialPolicyOf v with
    | some b => (s.setParams { s.params with partialPolicy := b }, .ok, .param 10 v none)
    | none => refuse s .badArgument
  | 11 => s.setNumber 11 0 250 v (fun p n => { p with quietDelay := n })
  | 12 => s.setBusRequest v
  | 13 => s.setSwitch 13 v (fun p on => { p with busHold := on })
  | 14 => s.setSwitch 14 v (fun p on => { p with commitHold := on })
  | 15 => s.setNumber 15 1 50 v (fun p n => { p with divergenceSweeps := n })
  | 16 => s.setSwitch 16 v (fun p on => { p with shadowFollow := on })
  | 17 => s.setNumber 17 0 16 v (fun p n => { p with positionReport := n })
  | 18 => s.setNumber 18 50 90 v (fun p n => { p with velocityFactor := n })
  | _ => refuse s .badArgument

/-- A switch as its code. -/
def switchCode (on : Bool) : Nat := bit on

/-- The value set of a parameter, PULSES_PER_BEAT's pending value first (R175). -/
def State.paramValue (s : State) : Nat → Option Nat
  | 1 => some s.params.sweepPeriod
  | 2 => some (match s.params.beatSource with | .line => 0 | .tap => 1 | .both => 2)
  | 3 => some (s.tracker.pendingPpb.getD s.tracker.ppb)
  | 4 => some s.params.followGain
  | 5 => some s.params.lossBeats
  | 6 => some s.params.defaultLead
  | 7 => some s.params.defaultDwell
  | 8 => some s.params.tileLatency
  | 9 => some s.params.graceSweeps
  | 10 => some (match s.params.partialPolicy with | .showTorn => 0 | .blankScreen => 1)
  | 11 => some s.params.quietDelay
  | 12 => some (switchCode s.params.busRequest)
  | 13 => some (switchCode s.params.busHold)
  | 14 => some (switchCode s.params.commitHold)
  | 15 => some s.params.divergenceSweeps
  | 16 => some (switchCode s.params.shadowFollow)
  | 17 => some s.params.positionReport
  | 18 => some s.params.velocityFactor
  | _ => none

/-- GET_PARAM (R175). -/
def State.getParamRequest (s : State) (id : Nat) : State × Status × ReplyBody :=
  match s.paramValue id with
  | some v =>
    (s, .ok, .param id v (if id = 3 then some (s.tracker.ppb, s.tracker.pendingPpb.isSome) else none))
  | none => refuse s .badArgument

/-- RESTART (R177): no further request is taken. -/
def State.restartRequest (s : State) : State × Status × ReplyBody :=
  (s.setPort { s.port with restartTaken := true }, .ok, .empty)

/-- A kind that names no request, or has its top bit set (R164). -/
def unknownKind (kind : Byte) : Bool := kind.getMsbD 0 || !requestKinds.contains kind

/-- The taking of a record of an unknown kind (R164). -/
def State.takeUnknown (s : State) : State :=
  match s.port.requests with
  | [] => s
  | r :: _ =>
    if s.takesRequests && unknownKind r.kind then s.dropRequest.answer r.kind .unknownKind .empty else s

/-! ### Meanings -/

/-- IDENTIFY (R172). -/
def execIdentify (s : State) : Host.Outcome State Fault Refusal :=
  .next (s.take kIdentify formEmpty (fun s => (s, .ok, .identify s.identity)))

/-- STATUS (R173). -/
def execStatus (s : State) : Host.Outcome State Fault Refusal :=
  .next (s.take kStatus formEmpty (fun s => (s, .ok, .status s.statusReport)))

/-- SET_PARAM (R174). -/
def execSetParam (id value : Nat) (s : State) : Host.Outcome State Fault Refusal :=
  .next (s.take kSetParam formFree (fun s => s.setParamRequest id value))

/-- GET_PARAM (R175). -/
def execGetParam (id : Nat) (s : State) : Host.Outcome State Fault Refusal :=
  .next (s.take kGetParam formFree (fun s => s.getParamRequest id))

/-- RESTART (R177). -/
def execRestart (s : State) : Host.Outcome State Fault Refusal :=
  .next (s.take kRestart formEmpty State.restartRequest)

/-- UNKNOWN_KIND (R164). -/
def execUnknownKind (s : State) : Host.Outcome State Fault Refusal := .next s.takeUnknown

/-- CONTROL_RECORD_RECEIVE (R162): bytes taken from CTL_RXD; those of a reset period are discarded. -/
def execControlRecordReceive (bytes : List LineByte) (s : State) : Host.Outcome State Fault Refusal :=
  if s.inReset then .next s else .next (s.setPort (bytes.foldl (ControlPort.byte s.showClock) s.port))

/-- CTL_BYTE_GAP_EXPIRY (R163). -/
def execCtlByteGapExpiry (s : State) : Host.Outcome State Fault Refusal :=
  if s.port.gap s.showClock && !s.inReset then .next (s.setPort s.port.dropRecord) else .next s

/-- TRANSMIT_START (R168). -/
def execTransmitStart (s : State) : Host.Outcome State Fault Refusal := .next s.transmitStarts

end Sys2Proof.Machine
end

