-- ==== Sys2Proof/Machine/LineTools.lean ====
section
/-!
DEFINITION. The line test and the tile survey (09): reflections, the result and the distance, the survey's
judgement and its ends, as operations; and the meanings of LINE_TEST, LINE_TEST_PULSE, LINE_TEST_COMPLETE
and SURVEY.
-/

namespace Sys2Proof.Machine

/-! ### Reflections (R153) -/

/-- A sample whose magnitude is at least 25% of the pulse's amplitude. -/
def reflects (amplitude : Nat) (sample : Int) : Bool := decide (amplitude ≤ sample.natAbs * 4)

/-- The class of a first reflection (R153). -/
def classOf (amplitude : Nat) (sample : Int) : EchoClass :=
  if 3 * amplitude < sample.natAbs * 4 then (if 0 < sample then .opened else .shorted) else .mismatch

/-- The first reflection among samples taken every 4 ns, the first of them `at4` × 4 ns after the pulse. -/
def firstReflection (amplitude : Nat) : Nat → List Int → Option Reflection
  | _, [] => none
  | at4, x :: rest =>
    if reflects amplitude x then some { delayNs := 4 * at4, cls := classOf amplitude x }
    else firstReflection amplitude (at4 + 1) rest

/-- The first reflection of a pulse in its window of 2,000 ns. -/
def echoReflection (e : Echo) : Option Reflection :=
  firstReflection e.amplitude 1 (e.samples.take 500)

/-- A pulse sent, and what its window saw (R153). -/
def LineTest.pulse (l : LineTest) (e : Echo) : LineTest :=
  { l with pulses := l.pulses + 1, reflections := l.reflections ++ (echoReflection e).toList }

/-! ### The result (R154, R155) -/

/-- The records of a class. -/
def ofClass (cls : EchoClass) (rs : List Reflection) : List Reflection :=
  rs.filter (fun r => decide (r.cls = cls))

/-- The class the most records hold; equal counts go to SHORT, then OPEN, then MISMATCH. -/
def resultClass (rs : List Reflection) : EchoClass :=
  let shorts := (ofClass .shorted rs).length
  let opens := (ofClass .opened rs).length
  let mismatches := (ofClass .mismatch rs).length
  if opens ≤ shorts ∧ mismatches ≤ shorts then .shorted
  else if mismatches ≤ opens then .opened
  else .mismatch

/-- The mean of some delays rounded to the nearest multiple of 4 ns, a tie up. -/
def meanDelay (rs : List Reflection) : Nat :=
  4 * roundDiv (rs.map (fun r => r.delayNs)).sum (4 * rs.length)

/-- The distance in decimetres of a delay, at a velocity factor in percent (R155). -/
def distanceDm (delayNs factor : Nat) : Nat := roundDiv (delayNs * factor * 3) 200

/-- The outcome of a test that ran to its end (R154). -/
def outcomeOf (rs : List Reflection) (factor : Nat) : TestOutcome :=
  if rs.length < 5 then .normal
  else
    let cls := resultClass rs
    let delay := meanDelay (ofClass cls rs)
    .fault cls delay (distanceDm delay factor)

/-- The record of a test that ends now, with the sweep timer's last number (log 62). -/
def State.testResult (s : State) (outcome : TestOutcome) : TestResult :=
  { outcome := outcome, reflected := s.lineTest.reflections.length
    velocityFactor := s.params.velocityFactor, sweep := s.bus.sweepNumber }

/-- The completion expiry (R154): the result becomes the last one, the test is IDLE, and LINE_TEST_DONE is
posted (R157). -/
def State.completeTest (s : State) : State :=
  let r := s.testResult (outcomeOf s.lineTest.reflections s.params.velocityFactor)
  { s with lineTest := { s.lineTest with started := none, last := some r } }.post (.lineTestDone r)

/-- A running test aborted (R156): the reflections are emptied and LINE_TEST_DONE is posted, but for cause
RESET. -/
def State.abortTest (s : State) (cause : TestAbort) : State :=
  match s.lineTest.started with
  | none => s
  | some _ =>
    let r := s.testResult (.aborted cause)
    let s1 := { s with lineTest := { s.lineTest with started := none, reflections := [], last := some r } }
    match cause with
    | .reset => s1
    | .grantFall | .peerDrive | .driveStart => s1.post (.lineTestDone r)

/-- LINE_TEST (R152): the checks in order, then the first pulse. -/
def State.lineTestRequest (s : State) (e : Echo) : State × Status × ReplyBody :=
  if s.own.state ≠ .granted ∨ s.own.peerDrive = true then refuse s .refusedState
  else if s.lineTest.started.isSome then refuse s .busy
  else
    let l : LineTest := { s.lineTest with started := some s.showClock, pulses := 0, reflections := [] }
    ({ s with lineTest := l.pulse e }, .ok, .started)

/-! ### The survey (R158 to R161) -/

/-- The interval under way carries no poll of a survey requested in it (R158). -/
def State.clearSurveyed (s : State) : State :=
  { s with bus := { s.bus with interval := s.bus.interval.map (fun iv => { iv with surveyed := false }) } }

/-- SURVEY (R158). -/
def State.surveyRequest (s : State) : State × Status × ReplyBody :=
  if s.own.state ≠ .driving ∨ s.bus.link ≠ .active then refuse s .refusedState
  else if s.survey.running then refuse s .busy
  else
    ({ s.clearSurveyed with
        survey := { running := true, nextAddress := 1, turn := .survey
                    found := List.replicate 16 .notPolled } }, .ok, .started)

/-- What the survey found, by address. -/
def Survey.byAddress (v : Survey) : List (Nat × Found) := v.found.zipIdx.map (fun p => (p.2 + 1, p.1))

/-- The found record of an address set. -/
def Survey.record (v : Survey) (address : Nat) (f : Found) : Survey :=
  { v with found := v.found.set (address - 1) f }

/-- The mismatch of one address, judged against the screen map (R160). -/
def State.mismatch (s : State) (address : Nat) (f : Found) : Option Mismatch :=
  match f, s.screenOf address with
  | .notPolled, _ => none
  | .unanswered, some i => some (.absentConfigured address i)
  | .unanswered, none => none
  | .answered _ _, none => some (.unassigned address)
  | .answered capacity _, some i =>
    match (s.screens.get i).setup with
    | some setup => if capacity < setup.cpt then some (.shortCapacity address i capacity setup.cpt) else none
    | none => none

/-- What SURVEY_DONE carries now (R160, R161), with the sweep timer's last number (log 62). -/
def State.surveyReport (s : State) (abort : Option SurveyAbort) : SurveyReport :=
  { present := s.survey.byAddress.filterMap (fun p =>
      match p.2 with
      | .answered capacity status => some (p.1, capacity, status)
      | _ => none)
    mismatches := s.survey.byAddress.filterMap (fun p => s.mismatch p.1 p.2)
    notPolled := (s.survey.byAddress.filter (fun p => decide (p.2 = .notPolled))).map (fun p => p.1)
    abort := abort, sweep := s.bus.sweepNumber }

/-- The survey ends: IDLE, with SURVEY_DONE posted. -/
def State.endSurvey (s : State) (abort : Option SurveyAbort) : State :=
  { s with survey := { s.survey with running := false } }.post (.surveyDone (s.surveyReport abort))

/-- The reply window of a survey poll goes with the survey: its answer is not taken (R161). -/
def PanelBus.dropSurveyPoll (b : PanelBus) : PanelBus :=
  match b.window with
  | some w => if w.frame = .surveyPoll then { b with window := none } else b
  | none => b

/-- A running survey aborted (R161). The reply window of its poll goes; an answer already taken in that window stays
found (log 43). -/
def State.abortSurvey (s : State) (cause : SurveyAbort) : State :=
  if s.survey.running then { s with bus := s.bus.dropSurveyPoll }.endSurvey (some cause) else s

/-! ### Meanings -/

/-- LINE_TEST (R152); `echo` is what the bus pair returns to the first pulse. -/
def execLineTest (echo : Echo) (s : State) : Host.Outcome State Fault Refusal :=
  .next (s.take kLineTest formEmpty (fun s => s.lineTestRequest echo))

/-- SURVEY (R158). -/
def execSurvey (s : State) : Host.Outcome State Fault Refusal :=
  .next (s.take kSurvey formEmpty State.surveyRequest)

/-- LINE_TEST_PULSE (R153): due every 5 ms while fewer than 8 pulses have been sent. -/
def execLineTestPulse (echo : Echo) (s : State) : Host.Outcome State Fault Refusal :=
  match s.lineTest.started with
  | none => .next s
  | some start =>
    if s.lineTest.pulses < 8 && reached s.showClock (later start (5000 * s.lineTest.pulses)) then
      .next { s with lineTest := s.lineTest.pulse echo }
    else .next s

/-- LINE_TEST_COMPLETE (R154): due 40 ms after the test was taken. -/
def execLineTestComplete (s : State) : Host.Outcome State Fault Refusal :=
  match s.lineTest.started with
  | none => .next s
  | some start => if reached s.showClock (later start 40000) then .next s.completeTest else .next s

end Sys2Proof.Machine
end

