-- ==== Sys2Proof/Machine/Marks.lean ====
section
/-!
DEFINITION. The controller's boundary (05, 06): the sweep frame, repairs ready for a mark, commits, forced
and notional commits, what a boundary calls for in each link and ownership state, and the meanings of
SWEEP_BOUNDARY, CONTROLLER_BOUNDARY, FORCED_COMMIT, QUIET_ENTRY, REFRESH_MARK and WAKE_DONE.
-/

namespace Sys2Proof.Machine

/-! ### The sweep frame (R88) -/

/-- The kind of a shown source. -/
def Source.kind : Source → SourceKind
  | .blank _ => .blank
  | .cue _ _ => .cue
  | .override _ => .override
  | .dark => .dark

/-- The cue number a shown source carries. -/
def Source.cue? : Source → Option Nat
  | .blank c => c
  | .cue c _ => some c
  | .override _ => none
  | .dark => none

/-- A screen's entry in a mark (R88). -/
def Screen.asShown (c : Screen) (instr : MarkInstr) : AsShown :=
  match c.setup with
  | none => AsShown.off
  | some _ =>
    { instr := instr, liveTag := c.liveTag, tagCounter := c.tagCounter, kind := c.live.source.kind
      cue := c.live.source.cue?, page := c.live.source.page?, partialMark := c.partialMark }

/-- The tile map: the screen of each address 1 to 16. -/
def State.tileMap (s : State) : List (Option (Fin 4)) := (List.range 16).map (fun k => s.screenOf (k + 1))

/-- The flags of a mark (R88). -/
structure MarkFlags where
  quiet : Bool
  wake : Bool
  takeover : Bool
deriving DecidableEq, Repr

/-- A mark without flags. -/
def MarkFlags.clear : MarkFlags := { quiet := false, wake := false, takeover := false }

/-- The as-shown entries of a mark: in a reset period those of the last mark before it, with every
instruction NONE (R108; with none before it, log 50). -/
def State.markEntries (s : State) (instrs : Four MarkInstr) : Four AsShown :=
  let now := s.screens.mapIdx (fun i c => c.asShown (instrs.get i))
  if s.inReset then
    match s.bus.lastShown with
    | some shown => shown.mapIdx (fun _ e => { e with instr := .none })
    | none => now
  else now

/-- The sweep frame of a mark (R88). -/
def State.sweepFrame (s : State) (b : Boundary) (flags : MarkFlags) (instrs : Four MarkInstr) :
    SweepFrame :=
  let t := s.readingTime b
  { number := b.number, quiet := flags.quiet, wake := flags.wake, takeover := flags.takeover
    tracker := s.tracker.modeAt t, grains := s.positionAt t, tempo := s.tracker.tempo
    tileMap := s.tileMap, screens := s.markEntries instrs }

/-! ### The interval (R91) -/

/-- The slots of an interval. -/
def slotsOf (periodMs : Nat) : Nat := (periodMs * 1000 - 1000) / 600

/-- The interval that a mark opens: it carries frames while the link is ACTIVE and no reset period is under
way (R87, R108, R116, R118). -/
def State.newInterval (s : State) (b : Boundary) : Interval :=
  { sweep := b.number, start := b.time, slots := slotsOf b.periodMs, next := 0, busy := 0
    attempted := [], failed := [], retried := [], repaired := []
    carries := decide (s.bus.link = .active) && !s.inReset, surveyed := s.survey.running }

/-! ### Repairs ready for a mark (R89, R105) -/

/-- A tile of the screen has a repair that is ready: the tile is IN with its mark set, and the live tag is 0
or the one the tile acknowledged in its repair frame. A repair acknowledged with a tag that is the live tag no more
is not ready, and its frame is sent again (log 73). -/
def Screen.repairReady (c : Screen) (t : Tile) : Bool :=
  decide (t.state = .inService) && t.repairDue && c.tiles.contains t.address
    && (c.liveTag == 0 || t.repairTag == some c.liveTag)

/-- A repair of one of the screen's tiles is ready. -/
def State.anyRepair (s : State) (i : Fin 4) : Bool :=
  s.bus.tiles.any (s.screens.get i).repairReady

/-- A tile for which the mark carries its repair. -/
def Tile.repairedBy (t : Tile) : Tile := { t with repairDue := false, repairTag := none, heldTags := [] }

/-- What a commit's mark gives a screen as the change's own instruction (R89, step 1). -/
def ScreenInstr.mark? : ScreenInstr → Option MarkInstr
  | .swap _ => some MarkInstr.swap
  | .blank => some MarkInstr.blank
  | .none => Option.none

/-- The repair's instruction for a screen, if one goes out with this mark (R89, step 2). A screen with an
entry in a change that stays in flight has none (R105). -/
def State.repairInstr (s : State) (i : Fin 4) : Option MarkInstr :=
  let waits := match s.change with | some c => (entryOf c.entries i).isSome | none => false
  if s.anyRepair i && !waits then some (if (s.screens.get i).liveTag = 0 then .blank else .swap)
  else none

/-! ### Sending a mark -/

/-- The instruction of a screen in a mark (R89): the change's own where the mark commits one, else a ready
repair's, else NONE. -/
def State.markInstr (s : State) (i : Fin 4) (given : Option MarkInstr) : MarkInstr :=
  match given with
  | some m => m
  | none => if s.inReset then .none else (s.repairInstr i).getD .none

/-- The mark carries a repair for a screen. -/
def State.repairSent (s : State) (i : Fin 4) (given : Option MarkInstr) : Bool :=
  !s.inReset && given.isNone && (s.repairInstr i).isSome

/-- A tile after a mark: one whose repair the mark carried has it done (R105). -/
def State.tileAfterMark (s : State) (given : Four (Option MarkInstr)) (t : Tile) : Tile :=
  if fourNumbers.any (fun i => s.repairSent i (given.get i) && (s.screens.get i).repairReady t) then t.repairedBy
  else t

/-- The mark put on the bus: the frame goes out, the interval opens, and a change that stays in flight has
been so before its first slot (R96). `given` are the instructions of the change it commits, none where
the mark commits none. -/
def State.putMark (s : State) (b : Boundary) (flags : MarkFlags) (given : Four (Option MarkInstr)) :
    State :=
  let frame := s.sweepFrame b flags (given.mapIdx s.markInstr)
  { s with
    change := s.change.map (fun c => { c with whole := true })
    bus := { s.bus with
      tiles := s.bus.tiles.map (s.tileAfterMark given)
      lastShown := some frame.screens
      busOut := some (.sweep frame)
      sinceMark := 0
      interval := some (s.newInterval b) } }

/-- A mark that commits nothing. -/
def State.plainMark (s : State) (b : Boundary) (flags : MarkFlags) : State :=
  s.putMark b flags (Four.replicate none)

/-! ### Commits (R97, R98, R99) -/

/-- The change gives a screen SWAP. -/
def Change.givesSwap (c : Change) : Bool :=
  c.entries.any (fun e => match e.instr with | .swap _ => true | _ => false)

/-- Every tile of the required set has acknowledged. -/
def Change.whollyAcked (c : Change) : Bool := c.required.all (fun a => c.acked.contains a)

/-- A tile of the screen is OUT. -/
def State.hasOut (s : State) (i : Fin 4) : Bool := (s.screens.get i).tiles.any s.isOut

/-- The instruction a screen takes at a commit: PARTIAL_POLICY may turn SWAP into BLANK (R99). A notional
commit takes the change's own (R126). -/
def State.takenInstr (s : State) (onBus : Bool) (e : Entry) : ScreenInstr :=
  match e.instr with
  | .swap tag =>
    if onBus && s.hasOut e.screen && decide (s.params.partialPolicy = .blankScreen) then .blank
    else .swap tag
  | i => i

/-- The partial mark after a commit (R99, R100). -/
def State.partialAfter (s : State) (onBus : Bool) (e : Option Entry) (mark : Bool) : Bool :=
  match e with
  | none => mark
  | some e =>
    match e.instr with
    | .none => mark
    | .blank => false
    | .swap _ =>
      if !s.hasOut e.screen then false
      else if onBus && decide (s.params.partialPolicy = .blankScreen) then true
      else mark

/-- The instruction the change's entry for a screen takes at a commit. -/
def State.takenFor (s : State) (onBus : Bool) (e : Option Entry) : ScreenInstr :=
  match e with
  | some e => s.takenInstr onBus e
  | none => .none

/-- A screen after a commit (R78, R97, R99). -/
def State.screenAfter (s : State) (c : Change) (onBus : Bool) (i : Fin 4) (sc : Screen) : Screen :=
  let e := entryOf c.entries i
  { sc.committed (c.takes.find? (fun t => t.screen == i)) e (s.takenFor onBus e) with
    partialMark := s.partialAfter onBus e sc.partialMark }

/-- The screens after a commit. -/
def State.commitScreens (s : State) (c : Change) (onBus : Bool) : State :=
  s.updScreens (s.screenAfter c onBus)

/-- The partial screens of a commit on the bus: those the change gave SWAP with a tile OUT (R97). -/
def State.partialScreens (s : State) (c : Change) : List (Fin 4) :=
  fourNumbers.filter (fun i =>
    match entryOf c.entries i with
    | some e => (match e.instr with | .swap _ => s.hasOut i | _ => false)
    | none => false)

/-- The commit report of a change that carries a firing (R58, R78). -/
def State.reportOf (s : State) (b : Boundary) (c : Change) (onBus : Bool) : List CommitReport :=
  match c.firing with
  | none => []
  | some f =>
    [{ cue := f.cue, trigger := f.trigger, sweep := b.number, position := s.fullPositionAt (s.readingTime b)
       dark := c.blackout || c.builtDark, shadow := !onBus, clipped := c.clipped, missing := c.missing
       partialScreens := if onBus then s.partialScreens c else [] }]

/-- A tile at a commit on the bus: one that acknowledged the change's content loses its held tags, and a
repair that was ready is spent by a BLANK for its screen (R105). -/
def State.tileAtCommit (s : State) (c : Change) (t : Tile) : Tile :=
  let t1 := if c.acked.contains t.address then { t with heldTags := [] } else t
  if fourNumbers.any (fun i =>
      (s.screens.get i).repairReady t
        && (match entryOf c.entries i with
            | some e => decide (s.takenInstr true e = .blank)
            | none => false)) then t1.repairedBy
  else t1

/-- The change commits, but for what follows the mark: the screens, the tiles and the report. -/
def State.commitChange (s : State) (b : Boundary) (c : Change) (onBus : Bool) : State :=
  let s1 := s.commitScreens c onBus
  { s1 with
    change := none
    own := { s1.own with heldChange := false }
    bus := if onBus then { s1.bus with tiles := s1.bus.tiles.map (s.tileAtCommit c) } else s1.bus
    reports := s1.reports ++ s.reportOf b c onBus }

/-- What the composer does once a commit has been taken: restores for initial blanks, then the next build if
work waits (R78). -/
def State.afterCommit (s : State) (c : Change) : State :=
  (s.updScreens (fun i sc => { sc with restore := sc.restore || c.initialBlanks.contains i })).composeWork

/-- What the mark that commits a change gives a screen as the change's own instruction. -/
def State.givenInstr (s : State) (c : Change) (i : Fin 4) : Option MarkInstr :=
  match entryOf c.entries i with
  | some e => (s.takenInstr true e).mark?
  | none => none

/-- The mark that commits the change in flight (R97). -/
def State.commitMark (s : State) (b : Boundary) (flags : MarkFlags) (c : Change) : State :=
  ((s.commitChange b c true).putMark b flags (s.screens.mapIdx (fun i _ => s.givenInstr c i))).afterCommit c

/-- The notional commit of a change in flight (R126). -/
def State.commitNotional (s : State) (b : Boundary) : State :=
  match s.change with
  | some c => (s.commitChange b c false).afterCommit c
  | none => s

/-- The tiles of the required set that have not acknowledged, in address order. -/
def Change.outstanding (c : Change) : List Nat :=
  ((List.range 16).map (fun k => k + 1)).filter (fun a => c.required.contains a && !c.acked.contains a)

/-- The held tags of a tile made OUT (R98): the live tag before the mark, the new tag, the last acknowledged
tag, without 0, none and repeats. -/
def heldTagsOf (liveTag : Nat) (newTag lastTag : Option Nat) : List Nat :=
  (([liveTag] ++ newTag.toList ++ lastTag.toList).filter (fun t => t != 0)).dedup

/-- The new tag the change gives the screen of an address. -/
def State.newTagFor (s : State) (c : Change) (address : Nat) : Option Nat :=
  match s.screenOf address with
  | some i =>
    match entryOf c.entries i with
    | some e => (match e.instr with | .swap tag => some tag | _ => none)
    | none => none
  | none => none

/-- A tile made OUT by a forced commit (R98). -/
def State.forceTile (s : State) (c : Change) (t : Tile) : Tile :=
  if c.outstanding.contains t.address then
    { t with
      state := .out
      heldTags := heldTagsOf
        (match s.screenOf t.address with | some i => (s.screens.get i).liveTag | none => 0)
        (s.newTagFor c t.address) t.lastTag }
  else t

/-- The grace has run out: the outstanding tiles become OUT, each with its TILE_OUT (R98). -/
def State.forceOut (s : State) (b : Boundary) (c : Change) : State :=
  (s.updTiles (s.forceTile c)).postAll
    (c.outstanding.map (fun a => .tileOut a (s.screenOf a) b.number .noAck))

/-- A mark with its test of the change in flight (R96). `rises`: the count may rise at this mark (R118,
R134). -/
def State.testedMark (s : State) (b : Boundary) (flags : MarkFlags) (rises : Bool) : State :=
  match s.change with
  | none => s.plainMark b flags
  | some c =>
    if c.whollyAcked then s.commitMark b flags c
    else if rises && c.whole then
      let counted := { c with markCount := c.markCount + 1 }
      if s.params.graceSweeps ≤ c.markCount + 1 then (s.forceOut b c).commitMark b flags counted
      else { s with change := some counted }.plainMark b flags
    else s.plainMark b flags

/-- A mark in QUIET, WAKING or at the start of driving: a change that gives SWAP is tested only where
`swapTested` says so (R116, R118, R134). -/
def State.markUncounted (s : State) (b : Boundary) (flags : MarkFlags) (swapTested : Bool) : State :=
  match s.change with
  | some c => if c.givesSwap && !swapTested then s.plainMark b flags else s.testedMark b flags false
  | none => s.plainMark b flags

/-! ### The link (06) -/

/-- The link state set, with LINK_STATE when that changes it (R119). -/
def State.setLink (s : State) (new : LinkState) (sweep : SweepNo) (cause : LinkCause) : State :=
  if s.bus.link = new then s
  else { s with bus := { s.bus with link := new } }.post (.linkState new s.bus.link sweep cause)

/-- The test of R116, on the state as it stands at the boundary. -/
def State.couldRest (s : State) : Bool :=
  s.enabled.all (fun i => (s.screens.get i).showsBlank && !(s.screens.get i).partialMark)
    && s.change.isNone
    && !s.bus.tiles.any (fun t => decide (t.state = .inService) && t.repairDue && (s.screenOf t.address).isSome)
    && s.params.quietDelay != 0

/-- What a boundary calls for. -/
inductive MarkCase where
  /-- no mark and nothing to commit: SHADOW with no change, GRANTED -/
  | idle
  /-- SHADOW: the change in flight commits notionally (R126) -/
  | notional
  /-- RELEASING with nothing held: driving ends here (R135) -/
  | stops
  /-- ACTIVE: a mark with its test (R96) -/
  | ordinary
  /-- ACTIVE: a mark whose test forces the change (R98) -/
  | forced
  /-- ACTIVE: the quiet-entry mark (R116) -/
  | quietEntry
  /-- QUIET: no mark (R116) -/
  | rest
  /-- QUIET: the refresh mark (R116) -/
  | refresh
  /-- QUIET: the mark of a change that gives no SWAP (R116) -/
  | quietCommit
  /-- QUIET: the wake mark (R117) -/
  | wake
  /-- WAKING: the mark after the wake mark (R117) -/
  | waking
  /-- WAKING: the link becomes ACTIVE (R117) -/
  | wakeDone
deriving DecidableEq, Repr

/-- The grace of the change in flight runs out at this mark (R96, R98). -/
def State.graceEnds (s : State) : Bool :=
  match s.change with
  | some c => !c.whollyAcked && c.whole && decide (s.params.graceSweeps ≤ c.markCount + 1)
  | none => false

/-- What the link state calls for at a boundary of a part that drives (R116 to R118). A QUIET link wakes for
a change that gives SWAP as the boundary finds it; one that was superseded or abandoned before the boundary
wakes nothing (log 53). -/
def State.linkCase (s : State) : MarkCase :=
  match s.bus.link with
  | .active =>
    if s.graceEnds then .forced
    else if s.couldRest && !s.inReset && decide (s.params.quietDelay ≤ s.bus.quietCount + 1) then .quietEntry
    else .ordinary
  | .quiet =>
    match s.change with
    | some c => if c.givesSwap then .wake else .quietCommit
    | none => if 16 ≤ s.bus.sinceMark + 1 then .refresh else .rest
  | .waking => if 2 ≤ s.bus.sinceWake + 1 then .wakeDone else .waking

/-- What a boundary calls for in each ownership state (R87, R126, R135). -/
def State.markCase (s : State) : MarkCase :=
  match s.own.state with
  | .shadow => if s.change.isSome then .notional else .idle
  | .granted => .idle
  | .driving => s.linkCase
  | .releasing => if s.own.heldChange && s.change.isSome then s.linkCase else .stops

/-- The quiet counter of an ordinary mark's test (R116); held at 0 in a reset period (R120). -/
def State.countRest (s : State) : State :=
  { s with bus := { s.bus with
      quietCount := if s.couldRest && !s.inReset then s.bus.quietCount + 1 else 0 } }

/-- The controller ends driving (R135). -/
def State.stopDriving (s : State) (b : Boundary) : State :=
  let after : OwnerState := if s.own.grant then .granted else .shadow
  let s1 := s.commitNotional b
  { s1 with
    own := { s1.own with state := after, drive := false, bothDriving := false, contention := 0
                         heldChange := false }
    bus := { s1.bus with interval := none, window := none, quietCount := 0 }
  }.post (.ownership after .releasing b.number .releaseDone false)

/-- The controller's part of a boundary for what the boundary calls for. -/
def State.markFor (s : State) (b : Boundary) : MarkCase → State
  | .idle => s
  | .notional => s.commitNotional b
  | .stops => s.stopDriving b
  | .ordinary => s.countRest.testedMark b MarkFlags.clear true
  | .forced => s.countRest.testedMark b MarkFlags.clear true
  | .quietEntry =>
    let s1 := ({ s with bus := { s.bus with quietCount := 0 } }.setLink .quiet b.number .idleScreens)
    (s1.abortSurvey .linkQuiet).plainMark b { MarkFlags.clear with quiet := true }
  | .rest => { s with bus := { s.bus with sinceMark := s.bus.sinceMark + 1, interval := none } }
  | .refresh => s.plainMark b { MarkFlags.clear with quiet := true }
  | .quietCommit => s.markUncounted b { MarkFlags.clear with quiet := true } false
  | .wake =>
    let s1 := { s with bus := { s.bus with sinceWake := 0 } }.setLink .waking b.number .wake
    s1.plainMark b { MarkFlags.clear with wake := true }
  | .waking =>
    { s with bus := { s.bus with sinceWake := s.bus.sinceWake + 1 } }.markUncounted b
      { MarkFlags.clear with wake := true } false
  | .wakeDone => (s.setLink .active b.number .wakeDone).markUncounted b MarkFlags.clear true

/-! ### Partial marks found clear at a boundary (R100) -/

/-- The screens whose partial mark is to be cleared, as found now. The test is made at every boundary that
the controller handles, and at the boundary that enters DRIVING (`enterDriving`). -/
def State.clearDue (s : State) : List (Fin 4) :=
  fourNumbers.filter (fun i =>
    let c := s.screens.get i
    c.partialMark
      && (c.setup.isNone || decide (s.params.partialPolicy = .showTorn)
          || c.tiles.all (fun a => s.bus.tiles.any (fun t => t.address == a && decide (t.state = .inService)))))

/-- The partial marks of some screens cleared, with a reissue of each that is enabled handed to the
composer. -/
def State.clearPartial (s : State) (which : List (Fin 4)) : State :=
  (s.updScreens (fun i c =>
    if which.contains i then
      { c with partialMark := false, reissue := c.reissue || c.setup.isSome }
    else c)).composeWork

/-- A free value taken: the counter of free values moves on. -/
def State.spendFree (s : State) : State := { s with freeCount := s.freeCount + 1 }

/-- The clearing is taken before the mark of its boundary: a free choice where one is due (log 10). -/
def State.clearsFirst (s : State) : Bool := !s.clearDue.isEmpty && Config.partialClearFirst s.freeCount

/-- The state that the mark of a boundary finds. -/
def State.beforeMark (s : State) : State :=
  if s.inReset || s.clearDue.isEmpty then s
  else if s.clearsFirst then s.spendFree.clearPartial s.clearDue
  else s.spendFree

/-- The clearing taken after the mark: of the marks found to clear before it, those that still are. -/
def State.afterMark (found : List (Fin 4)) (s : State) : State :=
  let still := found.filter (fun i => s.clearDue.contains i)
  if s.inReset || still.isEmpty then s else s.clearPartial still

/-- The controller handles a boundary (R87, R96, R108, R116 to R118, R126, R135). -/
def State.controllerHandles (s : State) (b : Boundary) : State :=
  State.afterMark s.clearDue (s.beforeMark.markFor b s.beforeMark.markCase)

/-- The oldest boundary that has reached the controller is handled. -/
def State.controllerNext (s : State) : State :=
  match s.bus.controllerDue with
  | [] => s
  | b :: rest => { s with bus := { s.bus with controllerDue := rest } }.controllerHandles b

/-- The oldest boundary is handled when it calls for a certain mark; else nothing happens (log 12). -/
def State.controllerIf (s : State) (want : MarkCase) : State :=
  if s.beforeMark.markCase = want then s.controllerNext else s

/-! ### The sweep timer (R86) -/

/-- A sweep boundary: the number, the timer of the sweep it begins, and the event that reaches each of the
three blocks. Outside a reset period all three take it; in one, the controller alone (R63, R139). -/
def State.boundary (s : State) (number : SweepNo) (time : ShowTime) (byPeer : Bool) : State :=
  let b : Boundary := { number := number, time := time, periodMs := s.params.sweepPeriod, byPeer := byPeer }
  { s with bus := { s.bus with
      timer := some { start := time, length := s.params.sweepPeriod * 1000 }
      sweepNumber := number
      controllerDue := s.bus.controllerDue ++ [b]
      schedulerDue := if s.inReset then s.bus.schedulerDue else s.bus.schedulerDue ++ [b]
      ownershipDue := if s.inReset then s.bus.ownershipDue else s.bus.ownershipDue ++ [b] } }

/-! ### Meanings -/

/-- SWEEP_BOUNDARY: the sweep timer expires (R86). -/
def execSweepBoundary (s : State) : Host.Outcome State Fault Refusal :=
  match s.bus.timer with
  | none => .next s
  | some timer =>
    if decide (timer.length ≤ elapsed s.showClock timer.start) && !s.inFullReset then
      .next (s.boundary (s.bus.sweepNumber + 1) (later timer.start timer.length) false)
    else .next s

/-- CONTROLLER_BOUNDARY (R96). -/
def execControllerBoundary (s : State) : Host.Outcome State Fault Refusal := .next s.controllerNext

/-- FORCED_COMMIT (R98): the boundary at which the grace has run out. -/
def execForcedCommit (s : State) : Host.Outcome State Fault Refusal := .next (s.controllerIf .forced)

/-- QUIET_ENTRY (R116): the boundary at which the quiet counter reaches QUIET_DELAY. -/
def execQuietEntry (s : State) : Host.Outcome State Fault Refusal := .next (s.controllerIf .quietEntry)

/-- REFRESH_MARK (R116): the 16th boundary since the last mark of a QUIET link. -/
def execRefreshMark (s : State) : Host.Outcome State Fault Refusal := .next (s.controllerIf .refresh)

/-- WAKE_DONE (R117): the second boundary after the wake mark. -/
def execWakeDone (s : State) : Host.Outcome State Fault Refusal := .next (s.controllerIf .wakeDone)

end Sys2Proof.Machine
end

