-- ==== Sys2Proof/Machine/Slots.lean ====
section
/-!
DEFINITION. The slots of an interval (05, sections 5.4 and 5.8; 09, section 9.2): what a slot is given to,
the tiles' answers and the closing of reply windows, as operations; and the meanings of SLOT_START, ACK,
POLL_REPLY and REPLY_WINDOW_CLOSE.
-/

namespace Sys2Proof.Machine

/-! ### What a slot may carry (R92) -/

/-- A frame a slot could carry: its kind, its tile, its tag, the characters per tile, its codes. -/
structure Candidate where
  frame : SlotFrame
  tile : Nat
  tag : Nat
  cpt : Nat
  codes : List Glyph
deriving DecidableEq, Repr

/-- The consecutive slots a content frame occupies (R91). -/
def slotsFor (cpt : Nat) : Nat := ceilDiv cpt 16

/-- A content frame for a segment of a screen. -/
def State.candidate (s : State) (i : Fin 4) (frame : SlotFrame) (tag : Nat) (seg : Segment) :
    Option Candidate :=
  match (s.screens.get i).setup with
  | some setup => some { frame := frame, tile := seg.tile, tag := tag, cpt := setup.cpt, codes := seg.codes }
  | none => none

/-- The content frames of the change in flight for some of its required tiles, in screen order and within
a screen in the order of its tile list. -/
def State.contentFor (s : State) (frame : SlotFrame) (wanted : Nat → Bool) : List Candidate :=
  match s.change with
  | none => []
  | some c =>
    c.entries.flatMap (fun e =>
      match e.instr with
      | .swap tag =>
        (e.segments.filter (fun g => c.required.contains g.tile && !c.acked.contains g.tile && wanted g.tile)).filterMap
          (s.candidate e.screen frame tag)
      | _ => [])

/-- The repair frame of a tile, when one is to be sent (R105): the tile is IN and due a repair, has not acknowledged the
live tag as it stands in an earlier one (log 73), and its screen has a live tag, a kept segment for it, and no entry in
the change in flight. -/
def State.repairFor (s : State) (t : Tile) : Option Candidate :=
  match s.screenOf t.address with
  | none => none
  | some i =>
    let c := s.screens.get i
    let waits := match s.change with | some ch => (entryOf ch.entries i).isSome | none => false
    if decide (t.state = .inService) && t.repairDue && !waits && c.liveTag != 0
        && t.repairTag != some c.liveTag then
      match c.kept.find? (fun g => g.tile == t.address) with
      | some g => s.candidate i .repair c.liveTag g
      | none => none
    else none

/-- What the slots of an interval may carry before the poll, in the order of R92. -/
def State.candidates (s : State) (iv : Interval) : List Candidate :=
  s.contentFor .first (fun a => !iv.attempted.contains a)
    ++ s.contentFor .retry (fun a => iv.failed.contains a && !iv.retried.contains a)
    ++ (s.bus.tiles.filter (fun t => !iv.repaired.contains t.address)).filterMap s.repairFor

/-! ### Polls (R92, R104, R158) -/

/-- The OUT tiles of the table. -/
def State.outTiles (s : State) : List Nat :=
  (s.bus.tiles.filter (fun t => decide (t.state = .out))).map (fun t => t.address)

/-- The survey takes polls in this interval (R158). -/
def State.surveyPolls (s : State) (iv : Interval) : Bool :=
  s.survey.running && iv.surveyed && decide (s.survey.nextAddress ≤ 16)

/-- A poll is due, and the last slot of the interval is kept for it: a tile is OUT, or a survey is running (R92,
R158). -/
def State.pollDue (s : State) : Bool := !s.outTiles.isEmpty || s.survey.running

/-- The first OUT tile at or after the poll position, wrapping from 16 to 1 (R104). -/
def nextOut (outs : List Nat) (position : Nat) : Option Nat :=
  match outs.find? (fun a => decide (position ≤ a)) with
  | some a => some a
  | none => outs.head?

/-- The poll position after an address, with 1 following 16. -/
def afterAddress (a : Nat) : Nat := if a ≥ 16 then 1 else a + 1

/-- The poll of an interval: its kind and its tile (R104, R158). In the interval in which SURVEY is taken, which may
carry no survey poll, the poll slot goes to the OUT tiles, and stays silent when there is none (log 58); that of
the interval in which a survey is aborted goes to them at once (log 59). -/
def State.pollChoice (s : State) (iv : Interval) : Option (SlotFrame × Nat) :=
  if s.surveyPolls iv && (s.outTiles.isEmpty || decide (s.survey.turn = .survey)) then
    some (.surveyPoll, s.survey.nextAddress)
  else
    match nextOut s.outTiles s.bus.pollPosition with
    | some a => some (.outPoll, a)
    | none => none

/-! ### Sending in a slot -/

/-- The time a slot begins (R91). -/
def slotStart (iv : Interval) (k : Nat) : ShowTime := later iv.start (1000 + 600 * k)

/-- A frame started in slot `iv.next`, over a number of slots: it goes out and its reply window is set. -/
def State.startFrame (s : State) (iv : Interval) (kind : SlotFrame) (tile tag slots : Nat) (out : BusFrame) :
    State :=
  let start := slotStart iv iv.next
  { s with bus := { s.bus with
      busOut := some out
      interval := some { iv with next := iv.next + 1, busy := iv.next + slots }
      window := some { frame := kind, sweep := iv.sweep, tile := tile, tag := tag
                       opens := later start (out.micros + 10), closes := later start (600 * slots)
                       answered := false } } }

/-- An interval in which a content frame is sent to a tile. -/
def Interval.sent (iv : Interval) (kind : SlotFrame) (tile : Nat) : Interval :=
  match kind with
  | .first => { iv with attempted := iv.attempted ++ [tile] }
  | .retry => { iv with retried := iv.retried ++ [tile] }
  | .repair => { iv with repaired := iv.repaired ++ [tile] }
  | .outPoll => iv
  | .surveyPoll => iv

/-- A content frame, a retry or a repair frame sent (R92). -/
def State.sendContent (s : State) (iv : Interval) (c : Candidate) : State :=
  s.startFrame (iv.sent c.frame c.tile) c.frame c.tile c.tag (slotsFor c.cpt)
    (.content c.tile c.tag c.cpt c.codes)

/-- The poll sent (R104, R158). -/
def State.sendPoll (s : State) (iv : Interval) (kind : SlotFrame) (tile : Nat) : State :=
  let s1 := s.startFrame iv kind tile 0 1 (.poll tile)
  match kind with
  | .surveyPoll =>
    { s1 with survey := { s1.survey with nextAddress := s1.survey.nextAddress + 1, turn := .out } }
  | _ =>
    { s1 with bus := { s1.bus with pollPosition := afterAddress tile }
              survey := { s1.survey with turn := .survey } }

/-- A slot in which nothing begins. -/
def State.passSlot (s : State) (iv : Interval) : State :=
  { s with bus := { s.bus with interval := some { iv with next := iv.next + 1 } } }

/-- What a slot is given to (R92). -/
def State.giveSlot (s : State) (iv : Interval) : State :=
  let kept := if s.pollDue then iv.slots - 1 else iv.slots
  if s.pollDue && decide (iv.next + 1 = iv.slots) then
    match s.pollChoice iv with
    | some (kind, a) => s.sendPoll iv kind a
    | none => s.passSlot iv
  else
    match (s.candidates iv).find? (fun c => decide (iv.next + slotsFor c.cpt ≤ kept)) with
    | some c => s.sendContent iv c
    | none => s.passSlot iv

/-- The next slot of the interval begins. Nothing happens while no slot is due, or while the reply window of
the frame before has not closed (log 2). -/
def State.slotStarts (s : State) : State :=
  match s.bus.interval with
  | none => s
  | some iv =>
    if iv.carries && s.drives && !s.inReset && decide (iv.next < iv.slots)
        && decide (1000 + 600 * iv.next ≤ elapsed s.showClock iv.start) then
      if iv.next < iv.busy then s.passSlot iv
      else if s.bus.window.isSome then s
      else s.giveSlot iv
    else s

/-! ### Answers (R93, R104, R159) -/

/-- The reply window that is open now and has had no answer. -/
def State.openWindow (s : State) : Option Window :=
  match s.bus.window with
  | some w =>
    if s.drives && !s.inReset && !w.answered && reached s.showClock w.opens && reached w.closes s.showClock
    then some w else none
  | none => none

/-- The window marked as answered. -/
def State.answerWindow (s : State) : State :=
  { s with bus := { s.bus with window := s.bus.window.map (fun w => { w with answered := true }) } }

/-- A tile that has acknowledged a first attempt or a retry (R93). -/
def Tile.ackedContent (t : Tile) (tag : Nat) : Tile :=
  { t with lastTag := some tag, state := if t.state = .unknown then .inService else t.state
           repairDue := false, repairTag := none }

/-- A tile that has acknowledged its repair frame (R105). -/
def Tile.ackedRepair (t : Tile) (tag : Nat) : Tile :=
  { t with lastTag := some tag, state := if t.state = .unknown then .inService else t.state
           repairTag := some tag }

/-- The acknowledgement of a window's frame. -/
def State.acknowledge (s : State) (w : Window) : State :=
  match w.frame with
  | .first | .retry =>
    let s1 := s.answerWindow.updTile w.tile (fun t => t.ackedContent w.tag)
    { s1 with change := s1.change.map (fun c => { c with acked := c.acked ++ [w.tile] }) }
  | .repair => s.answerWindow.updTile w.tile (fun t => t.ackedRepair w.tag)
  | .outPoll | .surveyPoll => s

/-- An OUT tile that answered a poll: IN, due a repair (R104). -/
def Tile.returned (t : Tile) : Tile :=
  { t with state := .inService, repairDue := true, repairTag := none }

/-- An OUT tile's return, with its TILE_IN (R104). -/
def State.tileReturns (s : State) (w : Window) (a : PollAnswer) : State :=
  if s.isOut w.tile then
    (s.updTile w.tile Tile.returned).post
      (.tileIn w.tile (s.screenOf w.tile) w.sweep a.liveTag a.pendingTag)
  else s

/-- The answer to a poll (R104, R159). -/
def State.pollAnswered (s : State) (w : Window) (a : PollAnswer) : State :=
  match w.frame with
  | .outPoll => s.answerWindow.tileReturns w a
  | .surveyPoll =>
    let s1 := s.answerWindow.updTile w.tile
      (fun t => { t with presence := .present, capacity := some a.capacity })
    let s2 := { s1 with survey := s1.survey.record w.tile (.answered a.capacity a.status) }
    s2.tileReturns w a
  | .first | .retry | .repair => s

/-- The survey completes with the reply window of its 16th poll (R160). -/
def State.completeSurvey (s : State) : State :=
  if s.survey.running && decide (16 < s.survey.nextAddress) then s.endSurvey none else s

/-- A survey poll without an answer (R159). -/
def State.surveyUnanswered (s : State) (tile : Nat) : State :=
  let s1 := s.updTile tile (fun t => { t with presence := .absent, capacity := none })
  { s1 with survey := s1.survey.record tile .unanswered }

/-- An interval in which a tile's first attempt went unacknowledged; `sweep` is that attempt's interval. -/
def Interval.missed (iv : Interval) (sweep : SweepNo) (tile : Nat) : Interval :=
  if iv.sweep = sweep then { iv with failed := iv.failed ++ [tile] } else iv

/-- The reply window closes (R93, R159, R160). -/
def State.closeWindow (s : State) (w : Window) : State :=
  let s1 := { s with bus := { s.bus with window := none } }
  match w.frame with
  | .first =>
    if w.answered then s1
    else { s1 with bus := { s1.bus with interval := s1.bus.interval.map (fun iv => iv.missed w.sweep w.tile) } }
  | .surveyPoll => (if w.answered then s1 else s1.surveyUnanswered w.tile).completeSurvey
  | .retry | .repair | .outPoll => s1

/-! ### Meanings -/

/-- SLOT_START (R92). -/
def execSlotStart (s : State) : Host.Outcome State Fault Refusal := .next s.slotStarts

/-- ACK (R93, R105): an answer in a reply window, with a good check, from the tile the frame addressed,
naming its tag. Any other is not taken. -/
def execAck (frame : List Byte) (s : State) : Host.Outcome State Fault Refusal :=
  match s.openWindow, parseAck frame with
  | some w, some (tile, tag) =>
    if tile = w.tile ∧ tag = w.tag then .next (s.acknowledge w) else .next s
  | _, _ => .next s

/-- POLL_REPLY (R104, R159): an answer to a poll, with a good check, from the tile polled. -/
def execPollReply (frame : List Byte) (s : State) : Host.Outcome State Fault Refusal :=
  match s.openWindow, parsePollReply frame with
  | some w, some a => if a.tile = w.tile then .next (s.pollAnswered w a) else .next s
  | _, _ => .next s

/-- REPLY_WINDOW_CLOSE (R93): due at the end of the frame's last slot. -/
def execReplyWindowClose (s : State) : Host.Outcome State Fault Refusal :=
  match s.bus.window with
  | some w => if reached s.showClock w.closes && !s.inReset then .next (s.closeWindow w) else .next s
  | none => .next s

end Sys2Proof.Machine
end

