-- ==== Sys2Proof/Machine/Takeover.lean ====
section
/-!
DEFINITION. Bus ownership and shadow operation (07): the mirror, agreement, divergence, adoption, the
takeover, entering DRIVING and the lines, as operations; and the meanings of OWNERSHIP_BOUNDARY and its
cases, PEER_FRAME, GRANT_RISE, GRANT_FALL, PEER_DRIVE_RISE and PEER_DRIVE_FALL.
-/

namespace Sys2Proof.Machine

/-! ### The mirror (R125, R128, R129) -/

/-- The peer link a sweep frame's flags give (07, section 7.2); one with both flags is QUIET (log 68). -/
def linkOf (f : SweepFrame) : LinkState :=
  if f.quiet then .quiet else if f.wake then .waking else .active

/-- The mirror after a peer frame (R125). -/
def Mirror.hear (m : Mirror) (f : SweepFrame) : Mirror :=
  { m with current := true, number := f.number, link := linkOf f, tracker := f.tracker, grains := f.grains
           tempo := f.tempo, screens := f.screens, silence := 0, silent := false }

/-- An enabled screen agrees with the mirror's entry (R128). -/
def agrees (c : Screen) (e : AsShown) : Bool :=
  decide (e.kind = c.live.source.kind) && e.cue == c.live.source.cue? && e.page == c.live.source.page?
    && !e.partialMark && (decide (e.liveTag = 0) == c.showsBlank)

/-- The enabled screens that disagree with the mirror. -/
def State.disagreeing (s : State) : List (Fin 4) :=
  s.enabled.filter (fun i => !agrees (s.screens.get i) (s.mirror.screens.get i))

/-- The cue an entry names for the peer: of kind CUE, or of kind BLANK with a cue (R129). -/
def namedCue (e : AsShown) : Option Nat :=
  match e.kind with
  | .cue => e.cue
  | .blank => e.cue
  | .off | .override | .dark => none

/-- The peer cue: that of the lowest-numbered entry that names one (R129). -/
def Mirror.peerCue (m : Mirror) : Option Nat :=
  fourNumbers.findSome? (fun i => namedCue (m.screens.get i))

/-! ### Silence and divergence (R127 to R129) -/

/-- The boundaries after which a silence begins (R127). -/
def Mirror.silenceLimit (m : Mirror) : Nat := if m.link = LinkState.quiet then 19 else 3

/-- The silence count at a boundary that no peer frame made (R127). -/
def State.countSilence (s : State) : State :=
  let m : Mirror := { s.mirror with silence := s.mirror.silence + 1 }
  if m.silenceLimit ≤ m.silence && !m.silent then
    { s with mirror := { m with silent := true, divergence := 0 } }.post
      (.peerSilent (if m.current then some m.number else none) m.silence
        (decide (s.mirror.link = LinkState.quiet)))
  else { s with mirror := m }

/-- The divergence test of a boundary taken in SHADOW (R128). -/
def State.testDivergence (s : State) (b : Boundary) : State :=
  if s.disagreeing.isEmpty then
    { s with mirror := { s.mirror with divergence := 0, divergenceOpen := false } }
  else
    let count := min (s.mirror.divergence + 1) 255
    let s1 := { s with mirror := { s.mirror with divergence := count } }
    if s.params.divergenceSweeps ≤ count && !s.mirror.divergenceOpen then
      { s1 with mirror := { s1.mirror with divergenceOpen := true } }.post
        (.divergence b.number s.disagreeing s.sched.live.cue s.mirror.peerCue count)
    else s1

/-- Adoption of the peer cue offered to the scheduler, where its conditions hold (R129). -/
def State.offerAdoption (s : State) : State :=
  match s.mirror.peerCue with
  | some n =>
    if s.params.shadowFollow && decide (s.params.divergenceSweeps ≤ s.mirror.divergence)
        && s.sched.live.cue != some n then s.adoptCue n
    else s
  | none => s

/-- The part of a SHADOW boundary that compares with the mirror: made with the mirror current and no
silence (R128, R129). -/
def State.compareMirror (s : State) (b : Boundary) : State :=
  if s.mirror.current && !s.mirror.silent then (s.testDivergence b).offerAdoption else s

/-! ### Takeover (R133) -/

/-- The shown source a mirror entry names; OFF is taken as BLANK. An entry of kind CUE or OVERRIDE that carries
no cue number or no page id, 0 on the bus, is taken with the number 0 (log 54). -/
def mirrorSource (e : AsShown) : Source :=
  match e.kind with
  | .off => .blank none
  | .blank => .blank e.cue
  | .cue => .cue (e.cue.getD 0) (e.page.getD 0)
  | .override => .override (e.page.getD 0)
  | .dark => .dark

/-- An enabled screen brought into line with its mirror entry (R133). An entry without a page id names no page,
whatever its kind: the found mark stays clear (log 54). -/
def Screen.takenOver (c : Screen) (e : AsShown) (disagrees : Bool) : Screen :=
  match c.setup with
  | none => c
  | some _ =>
    { c with
      live := { source := mirrorSource e
                found := e.liveTag != 0 && e.page.isSome && (mirrorSource e).page?.isSome }
      liveTag := e.liveTag
      tagCounter := bumpTag e.tagCounter
      partialMark := false
      kept := if disagrees then [] else c.kept
      reissue := c.reissue || disagrees }

/-- The takeover (R133): the records of the enabled screens follow the mirror, the change that waited is
superseded, and the takeover change is built from its firing and sources, all waiting work, and a reissue
of the disagreeing screens. -/
def State.takeover (s : State) : State :=
  let disagree := s.disagreeing
  let s1 := s.updScreens (fun i c =>
    { c.takenOver (s.mirror.screens.get i) (disagree.contains i) with pendingShown := none })
  let s2 := { s1 with change := none, own := { s1.own with heldChange := false } }
  match s.change with
  | some c => s2.build c.firing c.takes true
  | none => s2.build none [] true

/-! ### Entering DRIVING (R131, R132, R134) -/

/-- A reason to drive (R131). -/
def State.hasReason (s : State) : Bool := s.params.busHold || s.change.isSome || s.own.takeover

/-- Phase 2: the link state, from the mirror when a takeover is pending. -/
def State.takeLink (s : State) (b : Boundary) : State :=
  if s.own.takeover then s.setLink s.mirror.link b.number .ownership else s

/-- Phase 4: the first mark (R134). A WAKING link counts it as its wake mark (log 36), and a change that gives
SWAP is not tested there, whatever its required set: R118 over R134 (log 55). -/
def State.firstMark (s : State) (b : Boundary) : State :=
  let flags : MarkFlags := { MarkFlags.clear with takeover := s.own.takeover }
  match s.bus.link with
  | .active => s.markUncounted b flags true
  | .waking =>
    { s with bus := { s.bus with sinceWake := 0 } }.markUncounted b { flags with wake := true } false
  | .quiet =>
    if (match s.change with | some c => c.givesSwap | none => false) then
      ({ s with bus := { s.bus with sinceWake := 0 } }.setLink .waking b.number .wake).plainMark b
        { flags with wake := true }
    else s.markUncounted b { flags with quiet := true } false

/-- The boundaries still to be handled, from the one after number `n` on when it is among them. -/
def dropThrough (n : SweepNo) (due : List Boundary) : List Boundary :=
  if due.any (fun b => b.number == n) then (due.dropWhile (fun b => b.number != n)).tail else due

/-- Phase 4 with the test that the boundary makes of the partial marks (R100), before the mark or after it as
the free choice says (log 10): the controller handles this boundary here (log 8). -/
def State.firstBoundary (s : State) (b : Boundary) : State :=
  State.afterMark s.clearDue (s.beforeMark.firstMark b)

/-- Phase 5: what driving clears (R132). The first mark stands for the controller's own handling of this
boundary (log 8). -/
def State.driven (s : State) (b : Boundary) : State :=
  let took := s.own.takeover
  { s with
    own := { s.own with takeover := false, contention := 0 }
    mirror := { s.mirror with current := false, silence := 0, silent := false, divergence := 0
                              divergenceOpen := false }
    bus := { s.bus with controllerDue := dropThrough b.number s.bus.controllerDue }
  }.post (.ownership .driving .granted b.number .driveStart took)

/-- Entering DRIVING, one operation in its phases (R132); a running line test is aborted before them
(R156). -/
def State.enterDriving (s : State) (b : Boundary) : State :=
  let s0 := s.abortTest .driveStart
  let s1 := { s0 with own := { s0.own with drive := true, state := .driving } }
  let s2 := s1.takeLink b
  let s3 := if s2.own.takeover then s2.takeover else s2
  (s3.firstBoundary b).driven b

/-- The boundary of a GRANTED part (R131), also of one that stopped driving at this boundary (R135, log 70). -/
def State.grantedBoundary (s : State) (b : Boundary) : State :=
  if s.own.peerDrive then
    let count := s.own.contention + 1
    let s1 := { s with own := { s.own with contention := count } }
    if count = 25 then s1.post (.contention .waiting count b.number) else s1
  else if s.hasReason then s.enterDriving b
  else s

/-! ### The ownership unit's boundary -/

/-- The silence count's part of a boundary. -/
def State.silenceAt (s : State) (b : Boundary) : State := if b.byPeer then s else s.countSilence

/-- The ownership unit handles a boundary (R127 to R129, R131), the silence count first (log 69); in a reset period
it makes no test and does not enter DRIVING (R139). -/
def State.ownershipHandles (s : State) (b : Boundary) : State :=
  if s.inReset then s else
  match s.own.state with
  | .shadow => (s.silenceAt b).compareMirror b
  | .granted => (s.silenceAt b).grantedBoundary b
  | .driving => s
  | .releasing => s

/-- The oldest boundary that has reached the ownership unit is handled. -/
def State.ownershipNext (s : State) : State :=
  match s.bus.ownershipDue with
  | [] => s
  | b :: rest => { s with bus := { s.bus with ownershipDue := rest } }.ownershipHandles b

/-- The part listens: SHADOW or GRANTED (R125). -/
def State.listens (s : State) : Bool := !s.drives

/-- A silence begins at the next boundary of the ownership unit (R127). -/
def State.silenceEnds (s : State) : Bool :=
  match s.bus.ownershipDue with
  | b :: _ =>
    s.listens && !b.byPeer && !s.mirror.silent
      && decide (s.mirror.silenceLimit ≤ s.mirror.silence + 1)
  | [] => false

/-- The divergence counter reaches DIVERGENCE_SWEEPS at the next boundary of the ownership unit (R128). -/
def State.divergenceEnds (s : State) : Bool :=
  match s.bus.ownershipDue with
  | _ :: _ =>
    decide (s.own.state = .shadow) && s.mirror.current && !s.mirror.silent && !s.silenceEnds
      && !s.disagreeing.isEmpty && !s.mirror.divergenceOpen
      && decide (s.params.divergenceSweeps ≤ min (s.mirror.divergence + 1) 255)
  | [] => false

/-- The contention count reaches 25 at the next boundary of the ownership unit (R131). -/
def State.contentionEnds (s : State) : Bool :=
  match s.bus.ownershipDue with
  | _ :: _ => decide (s.own.state = .granted) && s.own.peerDrive && decide (s.own.contention + 1 = 25)
  | [] => false

/-! ### Peer frames (R125, R130) -/

/-- The position-following flag after a peer frame at which nothing is adopted. -/
def State.clearFollowing (s : State) : State := { s with own := { s.own with posFollow := false } }

/-- Adoption of the peer's position (R130, R19). -/
def State.adoptPosition (s : State) (f : SweepFrame) (g : Nat) : State :=
  if s.meter = [] then s.clearFollowing else
  let tr := s.tracker.adopt (endGrain s.meter) g f.tempo
  let s1 := { s with tracker := tr }
  if s.own.posFollow then s1
  else
    { s1 with own := { s1.own with posFollow := true } }.post
      (.positionAdopted s.bus.sweepNumber (fullPos s.meter (some tr.confirmed)) tr.tempo)

/-- The tracker may be adopted: STOPPED, FREE or LOST. -/
def TrackerMode.adoptable : TrackerMode → Bool
  | .stopped | .free | .lost => true
  | .following | .waiting => false

/-- What a peer frame does to the position of a part in SHADOW (R130); nothing in a reset period, where the
position-following flag is kept as well: R139 over R130 (log 56). -/
def State.followPosition (s : State) (f : SweepFrame) : State :=
  if s.own.state ≠ .shadow ∨ s.inReset = true then s else
  match f.grains with
  | some g =>
    if s.params.shadowFollow && decide (f.tracker = .following) && s.tracker.mode.adoptable then
      s.adoptPosition f g
    else s.clearFollowing
  | none => s.clearFollowing

/-- The sweep timer locked to a peer frame: a boundary of this part when the number differs (R125).
When it is the same, the timer restarts with the length of the sweep under way (log 72). -/
def State.lockTimer (s : State) (f : SweepFrame) : State :=
  if f.number = s.bus.sweepNumber then
    let length := match s.bus.timer with | some t => t.length | none => s.params.sweepPeriod * 1000
    { s with bus := { s.bus with timer := some { start := s.showClock, length := length } } }
  else s.boundary f.number s.showClock true

/-- A peer frame taken (R125, R130). -/
def State.hearPeer (s : State) (f : SweepFrame) : State :=
  ({ s with mirror := s.mirror.hear f }.lockTimer f).followPosition f

/-! ### The lines GRANT and PEER_DRIVE (R123, R124, R136) -/

/-- GRANT rises (R123). Leaving SHADOW clears the divergence counter (R128) and closes the episode (log 20). -/
def State.grantRises (s : State) : State :=
  let s1 := { s with own := { s.own with grant := true } }
  if s.own.grant || s.inFullReset then s1 else
  match s.own.state with
  | .shadow =>
    { s1 with
      own := { s1.own with state := .granted, takeover := s.mirror.current, contention := 0, posFollow := false }
      mirror := { s1.mirror with divergence := 0, divergenceOpen := false }
    }.post (.ownership .granted .shadow s.bus.sweepNumber .grantRise false)
  | .releasing =>
    if s.own.peerDrive then s1
    else
      { s1 with own := { s1.own with state := .driving, heldChange := false } }.post
        (.ownership .driving .releasing s.bus.sweepNumber .driveResumed false)
  | .granted => s1
  | .driving => s1

/-- GRANT falls (R124), which ends a running line test (R156) and a running survey (R161). -/
def State.grantFalls (s : State) : State :=
  let s1 := { s with own := { s.own with grant := false } }
  if !s.own.grant || s.inFullReset then s1 else
  match s.own.state with
  | .granted =>
    ({ s1 with own := { s1.own with state := .shadow, takeover := false, contention := 0 } }.post
      (.ownership .shadow .granted s.bus.sweepNumber .grantFall false)).abortTest .grantFall
  | .driving =>
    ({ s1 with own := { s1.own with
        state := .releasing, heldChange := s.params.commitHold && s.change.isSome } }.post
      (.ownership .releasing .driving s.bus.sweepNumber .grantFall false)).abortSurvey .driveLost
  | .shadow => s1
  | .releasing => s1

/-- PEER_DRIVE rises (R136, R156). -/
def State.peerDriveRises (s : State) : State :=
  let s1 := { s with own := { s.own with peerDrive := true } }
  if s.own.peerDrive || s.inFullReset then s1 else
  let s2 := s1.abortTest .peerDrive
  if s.drives && !s.own.bothDriving then
    { s2 with own := { s2.own with bothDriving := true } }.post
      (.contention .bothDriving s.own.contention s.bus.sweepNumber)
  else s2

/-! ### Meanings -/

/-- OWNERSHIP_BOUNDARY (R131). -/
def execOwnershipBoundary (s : State) : Host.Outcome State Fault Refusal := .next s.ownershipNext

/-- SILENCE_COUNT_EXPIRY (R127): the boundary at which a silence begins (log 12). -/
def execSilenceCountExpiry (s : State) : Host.Outcome State Fault Refusal :=
  if s.silenceEnds then .next s.ownershipNext else .next s

/-- DIVERGENCE_COUNT_EXPIRY (R128): the boundary at which a divergence episode opens (log 12). -/
def execDivergenceCountExpiry (s : State) : Host.Outcome State Fault Refusal :=
  if s.divergenceEnds then .next s.ownershipNext else .next s

/-- CONTENTION_COUNT_EXPIRY (R131): the boundary at which the contention count reaches 25 (log 12). -/
def execContentionCountExpiry (s : State) : Host.Outcome State Fault Refusal :=
  if s.contentionEnds then .next s.ownershipNext else .next s

/-- PEER_FRAME (R125): a sweep frame with a good check, while the part listens and no line test runs
(R153). -/
def execPeerFrame (frame : List Byte) (s : State) : Host.Outcome State Fault Refusal :=
  if s.listens && !s.inFullReset && s.lineTest.started.isNone then
    match parseSweep frame with
    | some f => .next (s.hearPeer f)
    | none => .next s
  else .next s

/-- GRANT_RISE (R123). -/
def execGrantRise (s : State) : Host.Outcome State Fault Refusal := .next s.grantRises

/-- GRANT_FALL (R124). -/
def execGrantFall (s : State) : Host.Outcome State Fault Refusal := .next s.grantFalls

/-- PEER_DRIVE_RISE (R136). -/
def execPeerDriveRise (s : State) : Host.Outcome State Fault Refusal := .next s.peerDriveRises

/-- PEER_DRIVE_FALL (R131, R136): a BOTH_DRIVING episode closes. -/
def execPeerDriveFall (s : State) : Host.Outcome State Fault Refusal :=
  .next { s with own := { s.own with peerDrive := false, bothDriving := false } }

end Sys2Proof.Machine
end

