-- ==== Sys2Proof/Machine/Resets.lean ====
section
/-!
DEFINITION. Resets and restart (10, section 10.9, and the reset sections of every chapter): the start and
end effects of both kinds, the reset period, and the meanings of TRANSMIT_END, POWER_ON, RESET_ASSERT,
RESET_RELEASE and RESTART_PERIOD_EXPIRY.
-/

namespace Sys2Proof.Machine

/-! ### The start of a full reset -/

/-- The control port at the start of a reset period (R178); the line keeps its rate until the end (R162),
and a record being sent is forgotten with its last byte (log 25). -/
def ControlPort.resetStart (p : ControlPort) : ControlPort :=
  { receiver := CtlReceiver.fresh, requests := [], replies := [], sending := none, notices := []
    lineError := Sticky.clear, noticesDropped := Sticky.clear, showError := Sticky.clear
    restartTaken := false, rate := p.rate }

/-- The ownership unit at the start of a full reset (R138): DRIVE and REQUEST fall; the input lines stand. -/
def Ownership.resetStart (o : Ownership) : Ownership :=
  { state := .shadow, drive := false, request := false, grant := o.grant, peerDrive := o.peerDrive
    takeover := false, heldChange := false, contention := 0, bothDriving := false, posFollow := false }

/-- The start effects of a full reset on every block (R21, R38, R62, R65, R84, R106, R120, R138, R151,
R157, R161, R178); the sweep timer does not run (R86). -/
def State.fullStart (s : State) : State :=
  { s with
    params := Params.defaults, meter := [], tracker := Tracker.fresh, cues := [], sched := Scheduler.fresh
    reports := [], pages := [], screens := Four.replicate Screen.fresh, groupHold := false, change := none
    bus := PanelBus.fresh none, own := s.own.resetStart, mirror := Mirror.fresh
    listener := { receiver := ShowReceiver.fresh, slots := Four.replicate Slot.fresh }
    lineTest := LineTest.fresh, survey := Survey.fresh, port := s.port.resetStart }

/-! ### The start of a show-safe reset -/

/-- The commit reports on their way are taken before the reset (log 9). -/
def State.takeReports (s : State) : State := s.reports.foldl State.takeReport { s with reports := [] }

/-- The firing of the change a show-safe reset abandons. -/
def State.abandonedCue (s : State) : Option Nat :=
  match s.change with
  | some c => c.firing.map (fun f => f.cue)
  | none => none

/-- The next pointer of a HELD scheduler after a show-safe reset (R64). -/
def State.resumePointer (s : State) : NextPtr :=
  let otherwise : NextPtr := match s.sched.live.cue with
    | some n => s.following n
    | none => pointTo s.cues
  match s.abandonedCue with
  | some n => if (s.cue? n).isSome then .cue n else otherwise
  | none => otherwise

/-- The scheduler at the start of a show-safe reset (R64). -/
def State.showSafeSched (s : State) : Scheduler :=
  let sc := { s.sched with pendingGo := none, noRise := false, follow := none }
  match s.sched.mode with
  | .idle => sc
  | .running | .held => { sc with mode := .held, next := s.resumePointer }

/-- A screen at the start of a show-safe reset: the waiting work is discarded (R85). -/
def Screen.showSafe (c : Screen) : Screen :=
  { c with edit := none, restore := false, reissue := false, initialBlank := false }

/-- The controller at the start of a show-safe reset (R107, R120, R63). Boundaries still to be handled: the
scheduler's and the ownership unit's are dropped, the controller's stay (log 67). -/
def PanelBus.showSafe (b : PanelBus) : PanelBus :=
  { b with window := none, interval := b.interval.map (fun iv => { iv with carries := false })
           quietCount := 0, schedulerDue := [], ownershipDue := [] }

/-- The listener at the start of a show-safe reset (R142, R151). -/
def Listener.showSafe (l : Listener) : Listener :=
  { receiver := ShowReceiver.fresh
    slots := l.slots.mapIdx (fun _ sl => { sl with latch := false, refractoryEnd := none }) }

/-- The line test after a reset: IDLE, no pulse counted, no reflection (R157). -/
def LineTest.reset (l : LineTest) : LineTest := { l with started := none, pulses := 0, reflections := [] }

/-- The start effects of a show-safe reset (R22, R64, R85, R107, R139, R151, R157, R161, R178). -/
def State.showSafeStart (s : State) : State :=
  let s0 := s.takeReports
  let s1 := (s0.abortTest .reset).abandon
  { s1.updScreens (fun _ c => c.showSafe) with
    tracker := s0.tracker.showSafe (endGrain s0.meter) s0.showClock
    sched := s0.showSafeSched, groupHold := false, bus := s1.bus.showSafe
    listener := s1.listener.showSafe, lineTest := s1.lineTest.reset
    survey := { s1.survey with running := false }, port := s1.port.resetStart }

/-! ### The period -/

/-- The reset unit's period set. -/
def State.setPeriod (s : State) (p : Option ResetPeriod) : State :=
  { s with resetUnit := { s.resetUnit with period := p } }

/-- A full reset begins outside a period (R176). -/
def State.beginFull (s : State) (p : ResetPeriod) : State := s.fullStart.setPeriod (some p)

/-- A show-safe reset begins outside a period (R176). -/
def State.beginShowSafe (s : State) (p : ResetPeriod) : State := s.showSafeStart.setPeriod (some p)

/-- RESET asserts with KEEP low during a period (R176): a show-safe period becomes a full one with this
cause; whether a full period takes the new cause is a free choice (log 11). -/
def State.fullDuring (s : State) (p : ResetPeriod) : State :=
  if p.showSafe then
    s.fullStart.setPeriod (some { p with showSafe := false, cause := .lineFull, line := true })
  else if Config.fullCauseReplaced s.freeCount then
    s.spendFree.setPeriod (some { p with cause := .lineFull, line := true })
  else s.spendFree.setPeriod (some { p with line := true })

/-- The HELLO of a period's end (R179). -/
def State.hello (s : State) (p : ResetPeriod) : State :=
  s.post (.hello p.cause p.showSafe Config.revision s.port.rate s.bus.sweepNumber)

/-- What the end of every period does (R178, R179): no period, the cause, the line's rate, HELLO. -/
def State.periodOver (s : State) (p : ResetPeriod) (fastStrap : Bool) : State :=
  { s with
    resetUnit := { s.resetUnit with period := none, cause := p.cause, showSafe := p.showSafe }
    port := { s.port with rate := if fastStrap then Config.fastRate else Config.slowRate }
  }.hello p

/-- The end effects of a full reset (R86, R121, R138). -/
def State.fullEnd (s : State) : State :=
  { s with
    bus := { s.bus with timer := some { start := s.showClock, length := Params.defaults.sweepPeriod * 1000 } }
    own := { s.own with state := if s.own.grant then .granted else .shadow, request := s.params.busRequest } }

/-- The counts that restart at the end of a show-safe reset (R139). -/
def Mirror.restart (m : Mirror) : Mirror :=
  { m with silence := 0, silent := false, divergence := 0, divergenceOpen := false }

/-- The end effects of a show-safe reset (R64, R85, R120, R139). -/
def State.showSafeEnd (s : State) : State :=
  let s1 := { s with
    sched := { s.sched with
      follow := if s.sched.mode = SchedMode.held then s.followFor s.sched.next else s.sched.follow }
    own := { s.own with contention := 0, bothDriving := false }
    mirror := s.mirror.restart
    bus := { s.bus with quietCount := 0 } }
  s1.restoreAll.composeWork

/-- A period ends (R176). -/
def State.endPeriod (s : State) (p : ResetPeriod) (fastStrap : Bool) : State :=
  if p.showSafe then (s.periodOver p fastStrap).showSafeEnd else s.fullEnd.periodOver p fastStrap

/-- Every reset begun in the period has ended. -/
def ResetPeriod.over (p : ResetPeriod) : Bool := !p.power && !p.line && p.restart.isNone

/-- A period after one of its resets has ended: over, or going on (R176). -/
def State.settlePeriod (s : State) (p : ResetPeriod) (fastStrap : Bool) : State :=
  if p.over then s.endPeriod p fastStrap else s.setPeriod (some p)

/-- RESET asserts (R176). -/
def State.resetRises (s : State) (keep : Bool) : State :=
  if s.resetUnit.line then s else
  let s1 := { s with resetUnit := { s.resetUnit with line := true } }
  match s.resetUnit.period, keep with
  | none, true =>
    s1.beginShowSafe { showSafe := true, cause := .lineKeep, power := false, line := true, restart := none }
  | none, false =>
    s1.beginFull { showSafe := false, cause := .lineFull, power := false, line := true, restart := none }
  | some p, true => s1.setPeriod (some { p with line := true })
  | some p, false => s1.fullDuring p

/-- RESET falls, or the supply reaches its working level (R176). -/
def State.resetEvent (s : State) (event : ReleaseEvent) (fastStrap : Bool) : State :=
  match event with
  | .resetFalls =>
    let s1 := { s with resetUnit := { s.resetUnit with line := false } }
    match s.resetUnit.period with
    | some p => s1.settlePeriod { p with line := false } fastStrap
    | none => s1
  | .supplyReady =>
    match s.resetUnit.period with
    | some p => s.settlePeriod { p with power := false } fastStrap
    | none => s

/-- The 50 ms of a RESTART run out (R176). -/
def State.restartExpires (s : State) (fastStrap : Bool) : State :=
  match s.resetUnit.period with
  | none => s
  | some p =>
    match p.restart with
    | some start =>
      if reached s.showClock (later start 50000) then s.settlePeriod { p with restart := none } fastStrap
      else s
    | none => s

/-- Power-on (R176): the show clock starts at a value the spec does not give (log 4). In a reset period it begins
a fresh one, of cause POWER, and the 50 ms of a RESTART still running are forgotten (log 60). -/
def State.powerUp (s : State) : State :=
  { s.spendFree with
    showClock := Config.powerOnClock s.freeCount
    resetUnit := { line := s.resetUnit.line, period := none, cause := .power, showSafe := false }
  }.beginFull
    { showSafe := false, cause := .power, power := true, line := s.resetUnit.line, restart := none }

/-! ### The end of a transmission (R168, R170, R177) -/

/-- The record in transmission is the reply of the RESTART taken. -/
def ControlPort.sentRestart (p : ControlPort) : Bool :=
  match p.sending with
  | some (.reply r _) =>
    p.restartTaken && r.taken && r.kind == replyKind kRestart && decide (r.status = .ok)
  | _ => false

/-- The port when a record's sending ends: a reply clears the flags still marked (R170). -/
def ControlPort.sent (p : ControlPort) : ControlPort :=
  match p.sending with
  | some (.reply _ _) => { p.settleFlags with sending := none }
  | _ => { p with sending := none }

/-- A record's sending ends; that of a RESTART's reply begins its reset (R177). -/
def State.transmitEnds (s : State) : State :=
  let s1 := s.setPort s.port.sent
  if s.port.sentRestart then
    s1.beginShowSafe { showSafe := true, cause := .request, power := false, line := false
                       restart := some s.showClock }
  else s1

/-! ### Meanings -/

/-- TRANSMIT_END (R168). -/
def execTransmitEnd (s : State) : Host.Outcome State Fault Refusal := .next s.transmitEnds

/-- POWER_ON (R176). -/
def execPowerOn (s : State) : Host.Outcome State Fault Refusal := .next s.powerUp

/-- RESET_ASSERT (R176): `keep` is the level of KEEP as RESET asserts. -/
def execResetAssert (keep : Bool) (s : State) : Host.Outcome State Fault Refusal :=
  .next (s.resetRises keep)

/-- RESET_RELEASE (R176): `fastStrap` is the RATE strap, read if the period ends here (R162). -/
def execResetRelease (event : ReleaseEvent) (fastStrap : Bool) (s : State) :
    Host.Outcome State Fault Refusal :=
  .next (s.resetEvent event fastStrap)

/-- RESTART_PERIOD_EXPIRY (R176). -/
def execRestartPeriodExpiry (fastStrap : Bool) (s : State) : Host.Outcome State Fault Refusal :=
  .next (s.restartExpires fastStrap)

end Sys2Proof.Machine
end

