-- ==== Sys2Proof/Machine/Dispatch.lean ====
section
/-! DEFINITION. One arm for each command of the table, each a direct call of its meaning. -/

namespace Sys2Proof.Machine

def exec (i : Instr) (s : State) : Host.Outcome State Fault Refusal :=
  match i with
  | .identify => Sys2Proof.Machine.execIdentify s
  | .status => Sys2Proof.Machine.execStatus s
  | .setParam id value => Sys2Proof.Machine.execSetParam id value s
  | .getParam id => Sys2Proof.Machine.execGetParam id s
  | .restart => Sys2Proof.Machine.execRestart s
  | .unknownKind => Sys2Proof.Machine.execUnknownKind s
  | .loadMeter entries => Sys2Proof.Machine.execLoadMeter entries s
  | .sync pos => Sys2Proof.Machine.execSync pos s
  | .setTempo bpm10 => Sys2Proof.Machine.execSetTempo bpm10 s
  | .tap => Sys2Proof.Machine.execTap s
  | .loadCue record => Sys2Proof.Machine.execLoadCue record s
  | .deleteCue n => Sys2Proof.Machine.execDeleteCue n s
  | .readCue n mode => Sys2Proof.Machine.execReadCue n mode s
  | .clearAct => Sys2Proof.Machine.execClearAct s
  | .arm pos tempo first held => Sys2Proof.Machine.execArm pos tempo first held s
  | .stop => Sys2Proof.Machine.execStop s
  | .go => Sys2Proof.Machine.execGo s
  | .jump n withSync withFire => Sys2Proof.Machine.execJump n withSync withFire s
  | .back => Sys2Proof.Machine.execBack s
  | .hold => Sys2Proof.Machine.execHold s
  | .release => Sys2Proof.Machine.execRelease s
  | .loadPage page => Sys2Proof.Machine.execLoadPage page s
  | .deletePage id => Sys2Proof.Machine.execDeletePage id s
  | .setScreen n setup => Sys2Proof.Machine.execSetScreen n setup s
  | .showPage page place => Sys2Proof.Machine.execShowPage page place s
  | .clearOverride place => Sys2Proof.Machine.execClearOverride place s
  | .groupHold => Sys2Proof.Machine.execGroupHold s
  | .groupRelease => Sys2Proof.Machine.execGroupRelease s
  | .blackout => Sys2Proof.Machine.execBlackout s
  | .lift => Sys2Proof.Machine.execLift s
  | .setListener slot setup => Sys2Proof.Machine.execSetListener slot setup s
  | .clearListener slot => Sys2Proof.Machine.execClearListener slot s
  | .readListener slot => Sys2Proof.Machine.execReadListener slot s
  | .lineTest echo => Sys2Proof.Machine.execLineTest echo s
  | .survey => Sys2Proof.Machine.execSurvey s
  | .controlRecordReceive bytes => Sys2Proof.Machine.execControlRecordReceive bytes s
  | .ctlByteGapExpiry => Sys2Proof.Machine.execCtlByteGapExpiry s
  | .transmitStart => Sys2Proof.Machine.execTransmitStart s
  | .transmitEnd => Sys2Proof.Machine.execTransmitEnd s
  | .powerOn => Sys2Proof.Machine.execPowerOn s
  | .resetAssert keep => Sys2Proof.Machine.execResetAssert keep s
  | .resetRelease event fastStrap => Sys2Proof.Machine.execResetRelease event fastStrap s
  | .restartPeriodExpiry fastStrap => Sys2Proof.Machine.execRestartPeriodExpiry fastStrap s
  | .beatPulse => Sys2Proof.Machine.execBeatPulse s
  | .clampExpiry => Sys2Proof.Machine.execClampExpiry s
  | .lossExpiry => Sys2Proof.Machine.execLossExpiry s
  | .sweepBoundary => Sys2Proof.Machine.execSweepBoundary s
  | .controllerBoundary => Sys2Proof.Machine.execControllerBoundary s
  | .forcedCommit => Sys2Proof.Machine.execForcedCommit s
  | .quietEntry => Sys2Proof.Machine.execQuietEntry s
  | .refreshMark => Sys2Proof.Machine.execRefreshMark s
  | .wakeDone => Sys2Proof.Machine.execWakeDone s
  | .schedulerBoundary => Sys2Proof.Machine.execSchedulerBoundary s
  | .commitReport => Sys2Proof.Machine.execCommitReport s
  | .slotStart => Sys2Proof.Machine.execSlotStart s
  | .ack frame => Sys2Proof.Machine.execAck frame s
  | .pollReply frame => Sys2Proof.Machine.execPollReply frame s
  | .replyWindowClose => Sys2Proof.Machine.execReplyWindowClose s
  | .ownershipBoundary => Sys2Proof.Machine.execOwnershipBoundary s
  | .silenceCountExpiry => Sys2Proof.Machine.execSilenceCountExpiry s
  | .divergenceCountExpiry => Sys2Proof.Machine.execDivergenceCountExpiry s
  | .contentionCountExpiry => Sys2Proof.Machine.execContentionCountExpiry s
  | .peerFrame frame => Sys2Proof.Machine.execPeerFrame frame s
  | .grantRise => Sys2Proof.Machine.execGrantRise s
  | .grantFall => Sys2Proof.Machine.execGrantFall s
  | .peerDriveRise => Sys2Proof.Machine.execPeerDriveRise s
  | .peerDriveFall => Sys2Proof.Machine.execPeerDriveFall s
  | .lineTestPulse echo => Sys2Proof.Machine.execLineTestPulse echo s
  | .lineTestComplete => Sys2Proof.Machine.execLineTestComplete s
  | .showFrame bytes => Sys2Proof.Machine.execShowFrame bytes s
  | .showByteGapExpiry => Sys2Proof.Machine.execShowByteGapExpiry s
  | .refractoryExpiry slot => Sys2Proof.Machine.execRefractoryExpiry slot s
  | .showFrameFails bytes => Sys2Proof.Machine.execShowFrameFails bytes s

end Sys2Proof.Machine
end

