-- ==== Sys2Proof/Safety.lean ====
section
/-!
DEFINITION. The terms statements use: what it is for a request to wait at the head of the queue, what taking
and answering it leaves, and what a state that keeps the spec's promises looks like.
-/

namespace Sys2Proof.Machine

/-! ### Requests -/

/-- A request of a kind and body waits at the head of the request queue, with `rest` behind it, and the part
takes requests now: no reset period is under way, no RESTART has been taken, and the reply path holds no
reply to a taken request (R165, R176, R177). -/
def Waiting (s : State) (kind : Byte) (body : List Byte) (rest : List Record) : Prop :=
  s.port.requests = { kind := kind, body := body } :: rest ∧ s.resetUnit.period = none
    ∧ s.port.restartTaken = false ∧ ∀ r ∈ s.port.replies, r.taken = false

/-- The state with these records in the request queue. -/
def State.withRequests (s : State) (rest : List Record) : State :=
  { s with port := { s.port with requests := rest } }

/-- The state with the reply to a taken request of a kind added to the reply path (R164, R165). -/
def State.withReply (s : State) (kind : Byte) (status : Status) (body : ReplyBody) : State :=
  { s with port := { s.port with
      replies := s.port.replies ++ [{ kind := replyKind kind, taken := true, status := status
                                      body := body }] } }

/-- The state with these notices in the queue. -/
def State.withNotices (s : State) (ns : List Notice) : State :=
  { s with port := { s.port with notices := ns } }

/-- A step's outcome is a next state that has a property. -/
def answersNext (o : Host.Outcome State Fault Refusal) (p : State → Prop) : Prop :=
  ∃ t, o = .next t ∧ p t

/-! ### The meter map and the tracker (R1, R3, R6, R14, R15) -/

/-- Two neighbouring meter entries: the first bars ascend and the start grain is the one of R3. -/
def meterNext (a b : MeterEntry) : Prop :=
  a.firstBar < b.firstBar ∧ b.startGrain = a.startGrain + (b.firstBar - a.firstBar) * a.beats * 192

/-- A meter map as R1 and R3 have it. -/
structure MeterOk (meter : List MeterEntry) : Prop where
  atMost : meter.length ≤ 128
  first : ∀ e ∈ meter.head?, e.firstBar = 1 ∧ e.startGrain = 0
  ranges : ∀ e ∈ meter, e.firstBar ≤ 9999 ∧ 1 ≤ e.beats ∧ e.beats ≤ 16
  rising : meter.IsChain meterNext

/-- The tracker's values within their ranges (R14, R15). -/
structure TrackerOk (tr : Tracker) : Prop where
  period : 200000 ≤ tr.period ∧ tr.period ≤ 3000000
  ppb : tr.ppb ∈ [1, 2, 3, 4, 6, 8]
  pendingPpb : ∀ q ∈ tr.pendingPpb, q ∈ [1, 2, 3, 4, 6, 8]

/-! ### The cue list (R23, R24, R27, R28) -/

/-- The cue list of R27: at most 2,048 cues in strictly ascending number. -/
structure CuesOk (cues : List Cue) : Prop where
  atMost : cues.length ≤ 2048
  rising : cues.Pairwise (fun a b => a.record.number < b.record.number)

/-- A bar:beat:grain within the ranges of the Conventions. -/
def BbgInRange (p : Bbg) : Prop := 1 ≤ p.bar ∧ p.bar ≤ 9999 ∧ 1 ≤ p.beat ∧ p.grain ≤ 191

/-- Every present field of a cue record is within its range (02, the field table; R24). -/
structure CueInRange (c : CueRecord) : Prop where
  number : 1 ≤ c.number ∧ c.number ≤ 65000
  anchor : ∀ p ∈ c.anchor, BbgInRange p
  slot : ∀ n ∈ c.slot, n ≤ 3
  delayMs : ∀ n ∈ c.delayMs, n ≤ 30000
  leadMs : ∀ n ∈ c.leadMs, n ≤ 3000
  dwellMs : ∀ n ∈ c.dwellMs, n ≤ 10000
  pages : c.pages.length ≤ 4 ∧ ∀ r ∈ c.pages, r.lane ≤ 3 ∧ 1 ≤ r.page ∧ r.page ≤ 4095

/-- The fields present agree with the kind, by the table of R23. -/
def CueFieldsAgree (c : CueRecord) : Prop :=
  (c.kind = .timed → c.anchor ≠ none)
    ∧ (c.slot ≠ none ↔ c.kind = .stage)
    ∧ (c.delayMs ≠ none ↔ c.kind = .follow)
    ∧ (c.leadMs ≠ none → c.kind = .timed)
    ∧ (c.kind = .manual → c.essential = false ∧ c.cut = false)

/-- A cue is in flight: the change in flight carries it, or its commit report waits for the scheduler (R28,
log 9). -/
def InFlight (s : State) (n : Nat) : Prop :=
  (∃ c ∈ s.change, ∃ f ∈ c.firing, f.cue = n) ∨ ∃ r ∈ s.reports, r.cue = n

/-- A cue is in use: live or in flight (R28). -/
def InUse (s : State) (n : Nat) : Prop := s.sched.live.cue = some n ∨ InFlight s n

/-- A change is in flight for the scheduler and the requests that ask for one: the controller holds it, or its
commit report waits to be taken (log 9). -/
def Flying (s : State) : Prop := s.change ≠ none ∨ s.reports ≠ []

/-! ### Pages and screens (R65, R66, R67, R69, R70) -/

/-- The page store of R65: at most one page per id, ids 1 to 4,095 in ascending order, at most 262,144 glyphs. -/
structure PagesOk (pages : List Page) : Prop where
  rising : pages.Pairwise (fun a b => a.id < b.id)
  ids : ∀ p ∈ pages, 1 ≤ p.id ∧ p.id ≤ 4095
  glyphs : (pages.map (fun p => (p.lines.map List.length).sum)).sum ≤ 262144

/-- The first two checks of LOAD_PAGE (R67). -/
structure PageInRange (p : Page) : Prop where
  id : 1 ≤ p.id ∧ p.id ≤ 4095
  lane : p.lane ≤ 3
  lines : 1 ≤ p.lines.length ∧ p.lines.length ≤ 3
  codes : ∀ l ∈ p.lines, l.length ≤ 96 ∧ ∀ g ∈ l, 0x20 ≤ g.toNat

/-- A page is in use: a screen's live or pending shown source names it as found (R66). -/
def PageInUse (s : State) (id : Nat) : Prop :=
  ∃ i : Fin 4, ∃ shown : Shown,
    ((s.screens.get i).live = shown ∨ (s.screens.get i).pendingShown = some shown)
      ∧ shown.found = true ∧ shown.source.page? = some id

/-- An enabled configuration within the ranges of R70. -/
structure SetupInRange (u : ScreenSetup) : Prop where
  lane : u.lane ≤ 3
  tiles : 1 ≤ u.tiles.length ∧ u.tiles.length ≤ 8
  addresses : ∀ a ∈ u.tiles, 1 ≤ a ∧ a ≤ 16
  distinct : u.tiles.Nodup
  cpt : 8 ≤ u.cpt ∧ u.cpt ≤ 64

/-- The screen map of R69: enabled screens are within their ranges, and an address belongs to one screen. -/
structure ScreensOk (screens : Four Screen) : Prop where
  ranges : ∀ i : Fin 4, ∀ u ∈ (screens.get i).setup, SetupInRange u
  apart : ∀ i j : Fin 4, i ≠ j → ∀ a ∈ (screens.get i).tiles, a ∉ (screens.get j).tiles

/-- The work of a screen that waits for a build (R76). -/
def Waits (s : State) (i : Fin 4) : Prop :=
  (s.screens.get i).restore = true ∨ (s.screens.get i).reissue = true
    ∨ (s.screens.get i).initialBlank = true ∨ (s.groupHold = false ∧ (s.screens.get i).edit ≠ none)

/-! ### The panel bus and the link (R88, R103, R105, R116) -/

/-- A tile is due a repair: it is IN with its repair-due mark set, and belongs to an enabled screen (R105). -/
abbrev RepairDue (s : State) (t : Tile) : Prop :=
  t.state = .inService ∧ t.repairDue = true ∧ s.screenOf t.address ≠ none

/-- A screen's live shown source shows blank (R71). -/
abbrev ShowsBlank (c : Screen) : Prop :=
  c.live.source.page? = none ∨ (c.live.found = false ∧ c.liveTag = 0)

/-- The test of R116. -/
abbrev CouldRest (s : State) : Prop :=
  (∀ i : Fin 4, (s.screens.get i).setup ≠ none →
      ShowsBlank (s.screens.get i) ∧ (s.screens.get i).partialMark = false)
    ∧ s.change = none ∧ (∀ t ∈ s.bus.tiles, ¬ RepairDue s t) ∧ s.params.quietDelay ≠ 0

/-- The entry of a screen in a mark that gives it an instruction (R88). -/
def entryIn (c : Screen) (instr : MarkInstr) : AsShown :=
  match c.setup with
  | none =>
    { instr := .none, liveTag := 0, tagCounter := 0, kind := .off, cue := none, page := none
      partialMark := false }
  | some _ =>
    { instr := instr, liveTag := c.liveTag, tagCounter := c.tagCounter
      kind := match c.live.source with
        | .blank _ => .blank
        | .cue _ _ => .cue
        | .override _ => .override
        | .dark => .dark
      cue := match c.live.source with
        | .blank n => n
        | .cue n _ => some n
        | .override _ => none
        | .dark => none
      page := c.live.source.page?, partialMark := c.partialMark }

/-- The sweep frame of a mark at a boundary, its four entries given (R88). -/
def frameAt (s : State) (b : Boundary) (quiet wake takeover : Bool) (screens : Four AsShown) : SweepFrame :=
  { number := b.number, quiet := quiet, wake := wake, takeover := takeover
    tracker := s.tracker.modeAt (s.readingTime b), grains := s.positionAt (s.readingTime b)
    tempo := tempoOf s.tracker.period, tileMap := (List.range 16).map (fun k => s.screenOf (k + 1))
    screens := screens }

/-- The interval a mark opens (R91); it carries frames when the link is ACTIVE outside a reset period. -/
def intervalAfter (s : State) (b : Boundary) (carries : Bool) : Interval :=
  { sweep := b.number, start := b.time, slots := (b.periodMs * 1000 - 1000) / 600, next := 0, busy := 0
    attempted := [], failed := [], retried := [], repaired := [], carries := carries
    surveyed := s.survey.running }

/-- The state with the controller's oldest boundary taken. -/
def State.withControllerDue (s : State) (due : List Boundary) : State :=
  { s with bus := { s.bus with controllerDue := due } }

/-- The part sends marks at its boundaries: DRIVING, or RELEASING with a held change in flight (R87, R135). -/
abbrev Marks (s : State) : Prop :=
  s.own.state = .driving ∨ (s.own.state = .releasing ∧ s.own.heldChange = true ∧ s.change ≠ none)

/-- A screen's partial mark is found to be cleared at a boundary (R100). -/
abbrev ClearDue (s : State) (i : Fin 4) : Prop :=
  (s.screens.get i).partialMark = true
    ∧ ((s.screens.get i).setup = none ∨ s.params.partialPolicy = .showTorn
      ∨ ∀ a ∈ (s.screens.get i).tiles, ∃ t ∈ s.bus.tiles, t.address = a ∧ t.state = .inService)

/-- No reset period is under way, and a boundary finds no partial mark to clear. -/
structure NoClearing (s : State) : Prop where
  running : s.resetUnit.period = none
  kept : ∀ i : Fin 4, ¬ ClearDue s i

/-- The state with some screens' partial marks cleared and a reissue of the enabled ones given to the composer
(R100). -/
def State.withCleared (s : State) (which : Fin 4 → Bool) : State :=
  { s with screens := s.screens.mapIdx (fun i c =>
      if which i then { c with partialMark := false, reissue := c.reissue || c.setup.isSome } else c)
  }.composeWork

/-- A tile's repair is ready for a mark of its screen (R105): it is IN and due a repair, and the live tag is 0 or
the one the tile acknowledged in its repair frame (log 73). -/
abbrev RepairReady (c : Screen) (t : Tile) : Prop :=
  t.address ∈ c.tiles ∧ t.state = .inService ∧ t.repairDue = true
    ∧ (c.liveTag = 0 ∨ t.repairTag = some c.liveTag)

/-- The repair's instruction that a mark gives a screen (R89, step 2): a tile of it has a repair ready, and the
change that stays in flight has no entry for the screen (R105). -/
def repairGiven (s : State) (i : Fin 4) : Option MarkInstr :=
  if (∃ t ∈ s.bus.tiles, RepairReady (s.screens.get i) t) ∧ ∀ c ∈ s.change, ∀ e ∈ c.entries, e.screen ≠ i then
    some (if (s.screens.get i).liveTag = 0 then .blank else .swap)
  else none

/-- The tile with its repair done, or made needless by a BLANK (R105). -/
def Tile.mended (t : Tile) : Tile := { t with repairDue := false, repairTag := none, heldTags := [] }

/-- The state with a mark sent outside a reset period (R87 to R91, R105): `given` is what the change that commits
there gives each screen, none where none commits. The mark carries the repairs that are ready, and a change that
stays in flight has been so before the interval it opens (R96). -/
def State.withSent (s : State) (b : Boundary) (quiet wake takeover carries : Bool)
    (given : Fin 4 → Option MarkInstr) : State :=
  let entries := s.screens.mapIdx (fun i c => entryIn c ((given i).getD ((repairGiven s i).getD .none)))
  { s with
    change := s.change.map (fun c => { c with whole := true })
    bus := { s.bus with
      tiles := s.bus.tiles.map (fun t =>
        if ∃ i : Fin 4, given i = none ∧ repairGiven s i ≠ none ∧ RepairReady (s.screens.get i) t then t.mended
        else t)
      lastShown := some entries, busOut := some (.sweep (frameAt s b quiet wake takeover entries))
      sinceMark := 0, interval := some (intervalAfter s b carries) } }

/-- The state with a mark sent that commits nothing. -/
def State.withMark (s : State) (b : Boundary) (quiet wake takeover carries : Bool) : State :=
  s.withSent b quiet wake takeover carries (fun _ => none)

/-- The state with a keep-alive mark sent: in a reset period, with the as-shown record of the last mark and every
instruction NONE (R108). -/
def State.withKeepAlive (s : State) (b : Boundary) (quiet wake : Bool) : State :=
  let entries := match s.bus.lastShown with
    | some shown => shown.mapIdx (fun _ e => { e with instr := .none })
    | none => s.screens.mapIdx (fun _ c => entryIn c .none)
  { s with bus := { s.bus with
      lastShown := some entries, busOut := some (.sweep (frameAt s b quiet wake false entries))
      sinceMark := 0, interval := some (intervalAfter s b false) } }

/-! ### Commits (R78, R97, R99, R126) -/

/-- A tile of the screen is OUT. -/
def hasOut (s : State) (i : Fin 4) : Bool := (s.screens.get i).tiles.any s.isOut

/-- PARTIAL_POLICY turns a SWAP of the screen into BLANK at a commit on the bus (R99). -/
def tornBlank (s : State) (i : Fin 4) : Bool := hasOut s i && decide (s.params.partialPolicy = .blankScreen)

/-- What the mark of a commit gives a screen as the change's own instruction (R89, step 1). -/
def commitGives (s : State) (c : Change) (i : Fin 4) : Option MarkInstr :=
  match (c.entries.find? (fun e => e.screen == i)).map (fun e => e.instr) with
  | some (ScreenInstr.swap _) => some (if tornBlank s i then .blank else .swap)
  | some ScreenInstr.blank => some .blank
  | _ => none

/-- A screen after a commit, on the bus or notional: a notional one does not apply PARTIAL_POLICY (log 31). -/
def screenAfterCommit (s : State) (c : Change) (onBus : Bool) (i : Fin 4) (old : Screen) : Screen :=
  let taken := match c.takes.find? (fun t => t.screen == i) with
    | some t => { old with cueSource := t.cueSource, override := t.override, pendingShown := none }
    | none => { old with pendingShown := none }
  match c.entries.find? (fun e => e.screen == i) with
  | none => taken
  | some e => match e.instr with
    | .none => { taken with live := e.shown }
    | .blank => { taken with live := e.shown, liveTag := 0, kept := [], partialMark := false }
    | .swap tag =>
      if onBus && tornBlank s i then
        { taken with live := e.shown, liveTag := 0, kept := [], partialMark := true }
      else
        { taken with
          live := e.shown, liveTag := tag, kept := e.segments, partialMark := hasOut s i && old.partialMark }

/-- The state with a change committed at a boundary, but for its mark and for what the composer then builds: the
screens, the commit report of a firing, and on the bus the tiles (R78, R97, R105). -/
def State.withCommit (s : State) (b : Boundary) (c : Change) (onBus : Bool) : State :=
  let gives := fun (i : Fin 4) => (c.entries.find? (fun e => e.screen == i)).map (fun e => e.instr)
  let report : List CommitReport := match c.firing with
    | none => []
    | some f =>
      [{ cue := f.cue, trigger := f.trigger, sweep := b.number
         position := s.fullPositionAt (s.readingTime b), dark := c.blackout || c.builtDark, shadow := !onBus
         clipped := c.clipped, missing := c.missing
         partialScreens := fourNumbers.filter (fun i => onBus && hasOut s i
           && (match gives i with | some (ScreenInstr.swap _) => true | _ => false)) }]
  let blanked := fun (t : Tile) =>
    ∃ i : Fin 4, RepairReady (s.screens.get i) t ∧ commitGives s c i = some MarkInstr.blank
  let tile := fun (t : Tile) =>
    if blanked t then t.mended else if t.address ∈ c.acked then { t with heldTags := [] } else t
  { s with
    change := none, reports := s.reports ++ report, screens := s.screens.mapIdx (screenAfterCommit s c onBus)
    own := { s.own with heldChange := false }
    bus := { s.bus with tiles := if onBus then s.bus.tiles.map tile else s.bus.tiles } }

/-- The composer's work after a commit: a restore for each initial blank, and a build of what waits (R78). -/
def State.withRestores (s : State) (c : Change) : State :=
  { s with screens := s.screens.mapIdx (fun i sc =>
      { sc with restore := sc.restore || c.initialBlanks.contains i }) }.composeWork

/-- The state with a mark sent that commits the change, and with what follows. -/
def State.withCommitMark (s : State) (b : Boundary) (c : Change) (quiet wake takeover carries : Bool) : State :=
  ((s.withCommit b c true).withSent b quiet wake takeover carries (commitGives s c)).withRestores c

/-- The change in flight gives a screen SWAP (R116). -/
abbrev GivesSwap (s : State) : Prop := ∃ c ∈ s.change, ∃ e ∈ c.entries, ∃ tag, e.instr = .swap tag

/-- The state with a mark sent at which a change in flight is tested and its count does not rise (R96, R116, R118,
R134): it commits there if every required tile has acknowledged. -/
def State.withTestedMark (s : State) (b : Boundary) (quiet wake takeover carries : Bool) : State :=
  match s.change with
  | some c =>
    if ∀ a ∈ c.required, a ∈ c.acked then s.withCommitMark b c quiet wake takeover carries
    else s.withMark b quiet wake takeover carries
  | none => s.withMark b quiet wake takeover carries

/-! ### Which request a command takes (11, section 11.3) -/

/-- The kind of the request that a command takes from the queue; none for the events and for UNKNOWN_KIND. -/
def requestKind : Instr → Option Byte
  | .identify => some 0x01 | .status => some 0x02 | .setParam _ _ => some 0x03 | .getParam _ => some 0x04
  | .restart => some 0x05 | .loadMeter _ => some 0x10 | .sync _ => some 0x11 | .setTempo _ => some 0x12
  | .tap => some 0x13 | .loadCue _ => some 0x18 | .deleteCue _ => some 0x19 | .readCue _ _ => some 0x1A
  | .clearAct => some 0x1B | .arm _ _ _ _ => some 0x20 | .stop => some 0x21 | .go => some 0x22
  | .jump _ _ _ => some 0x23 | .back => some 0x24 | .hold => some 0x25 | .release => some 0x26
  | .loadPage _ => some 0x28 | .deletePage _ => some 0x29 | .setScreen _ _ => some 0x2A
  | .showPage _ _ => some 0x2B | .clearOverride _ => some 0x2C | .groupHold => some 0x2D
  | .groupRelease => some 0x2E | .blackout => some 0x30 | .lift => some 0x31
  | .setListener _ _ => some 0x38 | .clearListener _ => some 0x39 | .readListener _ => some 0x3A
  | .lineTest _ => some 0x40 | .survey => some 0x41
  | .unknownKind | .controlRecordReceive _ | .ctlByteGapExpiry | .transmitStart | .transmitEnd | .powerOn
  | .resetAssert _ | .resetRelease _ _ | .restartPeriodExpiry _ | .beatPulse | .clampExpiry | .lossExpiry
  | .sweepBoundary | .controllerBoundary | .forcedCommit | .quietEntry | .refreshMark | .wakeDone
  | .schedulerBoundary | .commitReport | .slotStart | .ack _ | .pollReply _ | .replyWindowClose
  | .ownershipBoundary | .silenceCountExpiry | .divergenceCountExpiry | .contentionCountExpiry | .peerFrame _
  | .grantRise | .grantFall | .peerDriveRise | .peerDriveFall | .lineTestPulse _ | .lineTestComplete
  | .showFrame _ | .showByteGapExpiry | .refractoryExpiry _ | .showFrameFails _ => none

/-- The requests whose rule gives them no argument (R181), `echo` being what the bus pair answers to LINE_TEST. -/
def bareRequests (echo : Echo) : List Instr :=
  [.identify, .status, .restart, .tap, .clearAct, .stop, .go, .back, .hold, .release, .groupHold, .groupRelease
    , .blackout, .lift, .lineTest echo, .survey]

/-- The kind codes that name a request. -/
def requestCodes : List Byte :=
  [0x01, 0x02, 0x03, 0x04, 0x05, 0x10, 0x11, 0x12, 0x13, 0x18, 0x19, 0x1A, 0x1B, 0x20, 0x21, 0x22, 0x23, 0x24
    , 0x25, 0x26, 0x28, 0x29, 0x2A, 0x2B, 0x2C, 0x2D, 0x2E, 0x30, 0x31, 0x38, 0x39, 0x3A, 0x40, 0x41]

/-! ### The peer mirror (R128) -/

/-- An enabled screen agrees with the mirror's entry for it (R128). -/
abbrev Agrees (c : Screen) (e : AsShown) : Prop :=
  e.kind = (match c.live.source with
    | .blank _ => SourceKind.blank
    | .cue _ _ => SourceKind.cue
    | .override _ => SourceKind.override
    | .dark => SourceKind.dark)
  ∧ e.cue = (match c.live.source with
    | .blank n => n
    | .cue n _ => some n
    | .override _ => none
    | .dark => none)
  ∧ e.page = c.live.source.page? ∧ e.partialMark = false ∧ (e.liveTag = 0 ↔ ShowsBlank c)

/-! ### Invariants -/

/-- What every step keeps of the stores and of the lines: the meter map (R1, R3), the tracker's ranges (R14, R15), the
cue list (R27), the page store (R65), the screen map (R69), the tile table's addresses (R103), the depths of the shown
history (R43), the request queue and the reply path (R165, R167) and the notice queue (R171), DRIVE (R122), REQUEST
(R121), the state of a part in a full reset's period (R138), and the transmitter stopped in a period (R168). -/
structure StoresOk (s : State) : Prop where
  meter : MeterOk s.meter
  tracker : TrackerOk s.tracker
  cues : CuesOk s.cues
  pages : PagesOk s.pages
  screens : ScreensOk s.screens
  tiles : s.bus.tiles.map (fun t => t.address) = (List.range 16).map (fun k => k + 1)
  history : s.sched.history.length ≤ 8
  requests : s.port.requests.length ≤ 4
  fullAnswers : (s.port.replies.filter (fun r => !r.taken)).length ≤ 4
  takenReplies : (s.port.replies.filter (fun r => r.taken)).length ≤ 1
  notices : s.port.notices.length ≤ 32
  onePosition : (s.port.notices.filter Notice.isPosition).length ≤ 1
  drive : s.own.drive = true ↔ s.own.state = .driving ∨ s.own.state = .releasing
  fullPeriod : ∀ p ∈ s.resetUnit.period, p.showSafe = false → s.own.state = .shadow ∧ s.own.request = false
  request : (∀ p ∈ s.resetUnit.period, p.showSafe = true) → s.own.request = s.params.busRequest
  sending : s.resetUnit.period ≠ none → s.port.sending = none

/-- What every step keeps of the show: positions and anchors lie on the map (R3, R26), the next pointer is absent in
IDLE alone (R40), a pending GO is held in RUNNING and HELD alone (R45), the FOLLOW timer runs for a FOLLOW cue alone
(R44), the pointer, the live cue record, the history and the firings in flight name cues of the list (R28, R33, R43),
the newest history entry is the live cue (R43), at most one firing is in flight (R46), and one of BACK names the entry
before the newest (R56). -/
structure ShowOk (s : State) : Prop where
  meter : MeterOk s.meter
  cues : CuesOk s.cues
  position : s.tracker.mode ≠ .stopped → ∃ last, endGrain s.meter = some last ∧ s.tracker.confirmed ≤ last
  anchors : ∀ c ∈ s.cues, ∀ g ∈ c.anchorGrains, ∃ last, endGrain s.meter = some last ∧ g ≤ last
  idle : s.sched.next = .absent ↔ s.sched.mode = .idle
  pendingGo : s.sched.pendingGo ≠ none → s.sched.mode ≠ .idle
  follow : s.sched.follow ≠ none → s.namesFollow s.sched.next = true
  next : ∀ n, s.sched.next = .cue n → s.cue? n ≠ none
  live : ∀ n ∈ s.sched.live.cue, s.cue? n ≠ none
  history : ∀ n ∈ s.sched.history, s.cue? n ≠ none
  newest : s.sched.history ≠ [] → s.sched.history.getLast? = s.sched.live.cue
  flight : ∀ n, InFlight s n → s.cue? n ≠ none
  oneReport : s.reports.length ≤ 1
  oneFiring : ∀ c ∈ s.change, c.firing ≠ none → s.reports = []
  backFiring : ∀ c ∈ s.change, ∀ f ∈ c.firing, f.trigger = .back → ∃ h x, s.sched.history = h ++ [f.cue, x]
  backReport : ∀ r ∈ s.reports, r.trigger = .back → ∃ h x, s.sched.history = h ++ [r.cue, x]

end Sys2Proof.Machine
end

