-- ==== Sys2Proof/WellFormed.lean ====
section
/-!
DEFINITION. Well-formed commands: operands that fit the fields a record or a line can carry. Whether the
part takes a value is its own check (R29, R67, R143 …), not this one.
-/

namespace Sys2Proof

/-- A value that fits a field of one byte. -/
def fits8 (n : Nat) : Bool := decide (n < 256)

/-- A value that fits a field of two bytes. -/
def fits16 (n : Nat) : Bool := decide (n < 65536)

/-- An absent field, or one whose value passes the check. -/
def optFits (p : Nat → Bool) : Option Nat → Bool
  | none => true
  | some n => p n

/-- A bar:beat:grain of 2 + 1 + 1 bytes (R181). -/
def Bbg.wf (p : Bbg) : Bool := fits16 p.bar && fits8 p.beat && fits8 p.grain

/-- A cue record that the layout of chapter 11 can carry. -/
def CueRecord.wf (c : CueRecord) : Bool :=
  fits16 c.number
    && (match c.anchor with | none => true | some a => a.wf)
    && optFits fits8 c.slot && optFits fits16 c.delayMs && optFits fits16 c.leadMs
    && optFits fits16 c.dwellMs && fits8 c.pages.length
    && c.pages.all (fun r => fits8 r.lane && fits16 r.page)

/-- A page record that the layout of chapter 11 can carry. -/
def Page.wf (p : Page) : Bool :=
  fits16 p.id && fits8 p.lane && fits8 p.lines.length && p.lines.all (fun l => fits8 l.length)

/-- A screen configuration of byte-sized fields. -/
def ScreenSetup.wf (c : ScreenSetup) : Bool :=
  fits8 c.lane && fits8 c.cpt && fits8 c.tiles.length && c.tiles.all fits8

/-- A place of one byte. -/
def Place.wf : Place → Bool
  | .screen n => fits8 n
  | .lane n => fits8 n

/-- Listener settings of one- and two-byte fields. -/
def ListenerSetup.wf (l : ListenerSetup) : Bool :=
  fits8 l.positions.length && l.positions.all fits8 && fits16 l.refractoryMs
    && (match l.argument with | none => true | some a => a.wf)

/-- A window of 2,000 ns holds 500 samples, measured against a pulse that has an amplitude (R153). -/
def Echo.wf (e : Echo) : Bool := decide (0 < e.amplitude) && decide (e.samples.length ≤ 500)

/-- The well-formed commands. -/
def Instr.wf : Instr → Bool
  | .identify => true
  | .status => true
  | .setParam id value => fits8 id && fits16 value
  | .getParam id => fits8 id
  | .restart => true
  | .unknownKind => true
  | .loadMeter entries => entries.all (fun e => fits16 e.firstBar && fits8 e.beats)
  | .sync pos => pos.wf
  | .setTempo bpm10 => fits16 bpm10
  | .tap => true
  | .loadCue record => record.wf
  | .deleteCue n => fits16 n
  | .readCue n _ => fits16 n
  | .clearAct => true
  | .arm pos tempo first _ => pos.wf && optFits fits16 tempo && optFits fits16 first
  | .stop => true
  | .go => true
  | .jump n _ _ => fits16 n
  | .back => true
  | .hold => true
  | .release => true
  | .loadPage page => page.wf
  | .deletePage id => fits16 id
  | .setScreen n setup => fits8 n && (match setup with | none => true | some c => c.wf)
  | .showPage page place => fits16 page && place.wf
  | .clearOverride place => place.wf
  | .groupHold => true
  | .groupRelease => true
  | .blackout => true
  | .lift => true
  | .setListener slot setup => fits8 slot && setup.wf
  | .clearListener slot => fits8 slot
  | .readListener slot => fits8 slot
  | .lineTest echo => echo.wf
  | .survey => true
  | .controlRecordReceive _ => true
  | .ctlByteGapExpiry => true
  | .transmitStart => true
  | .transmitEnd => true
  | .powerOn => true
  | .resetAssert _ => true
  | .resetRelease _ _ => true
  | .restartPeriodExpiry _ => true
  | .beatPulse => true
  | .clampExpiry => true
  | .lossExpiry => true
  | .sweepBoundary => true
  | .controllerBoundary => true
  | .forcedCommit => true
  | .quietEntry => true
  | .refreshMark => true
  | .wakeDone => true
  | .schedulerBoundary => true
  | .commitReport => true
  | .slotStart => true
  | .ack _ => true
  | .pollReply _ => true
  | .replyWindowClose => true
  | .ownershipBoundary => true
  | .silenceCountExpiry => true
  | .divergenceCountExpiry => true
  | .contentionCountExpiry => true
  | .peerFrame _ => true
  | .grantRise => true
  | .grantFall => true
  | .peerDriveRise => true
  | .peerDriveFall => true
  | .lineTestPulse echo => echo.wf
  | .lineTestComplete => true
  | .showFrame _ => true
  | .showByteGapExpiry => true
  | .refractoryExpiry slot => decide (slot < 4)
  | .showFrameFails _ => true

end Sys2Proof
end

