-- ==== Sys2Proof/Certificates/Slice0/Obligations.lean ====
section
/-!
DEFINITION. The statements for the provers. A statement about a request gives the whole next state: the record
leaves the queue, the effect, and the reply; `if … then … else …` chains follow the order of the checks.
Where a statement rests on a choice of the model's, its docstring names the log entry.
-/

open Sys2Proof Sys2Proof.Machine

/-! ### The step -/

/-- A step takes the command at the front of the queue and runs it with the queue's rest (the row's form). With no
command waiting it moves the show clock on by one µs and changes nothing else: the model's choice (log 1). -/
def Obligations.StepRunsTheFrontCommand : Prop :=
  (∀ (c : Instr) (rest : List Instr) (s : State),
    s.pending = c :: rest → step s = exec c { s with pending := rest })
  ∧ ∀ s : State, s.pending = [] → step s = .next { s with showClock := s.showClock + 1 }

/-- Every command has a next state in every state (R164: a request is answered by a code; the spec lets no event stop
the part). None touches the commands that wait behind it, and only POWER_ON touches the show clock. -/
def Obligations.EveryCommandHasANextState : Prop :=
  ∀ (c : Instr) (s : State), ∃ t, exec c s = .next t ∧ t.pending = s.pending
    ∧ (c ≠ .powerOn → t.showClock = s.showClock)

/-! ### Score position and tempo (01) -/

/-- R4 and R5, last sentence: the two conversions are each other's inverse. -/
def Obligations.PositionConversionsAreInverse : Prop :=
  ∀ meter : List MeterEntry, MeterOk meter →
    (∀ p g, toGrains meter p = some g →
      toBbg meter g = some p ∧ ∃ last, endGrain meter = some last ∧ g ≤ last)
    ∧ (∀ g last, endGrain meter = some last → g ≤ last →
      ∃ p, toBbg meter g = some p ∧ toGrains meter p = some g)

/-- R2 with R3: LOAD_METER's checks in order, and the entries appended with their start grains: the old map stays, the
list given follows it, and each new entry stands where R3 puts it. -/
def Obligations.LoadMeterAppends : Prop :=
  ∀ (s : State) (entries : List MeterPair) (body : List Byte) (rest : List Record),
    Waiting s kLoadMeter body rest →
    let went := s.withRequests rest
    let refused := fun code => .next (went.withReply kLoadMeter code .empty)
    let bars := s.meter.map (fun e => e.firstBar) ++ entries.map (fun e => e.firstBar)
    exec (.loadMeter entries) s =
      (if s.cues ≠ [] ∨ s.tracker.mode ≠ .stopped then refused .refusedState
      else if entries = [] then refused .badArgument
      else if ∃ e ∈ entries, ¬ (1 ≤ e.firstBar ∧ e.firstBar ≤ 9999 ∧ 1 ≤ e.beats ∧ e.beats ≤ 16) then
        refused .badArgument
      else if s.meter = [] ∧ (entries.head?.map (fun e => e.firstBar)) ≠ some 1 then refused .badArgument
      else if ¬ (bars.drop (s.meter.length - 1)).IsChain (· < ·) then refused .badArgument
      else if 128 < s.meter.length + entries.length then refused .badArgument
      else .next (({ went with meter := appendMeter s.meter entries }).withReply kLoadMeter .ok .empty))
    ∧ (appendMeter s.meter entries).take s.meter.length = s.meter
    ∧ ((appendMeter s.meter entries).drop s.meter.length).map (fun e => (e.firstBar, e.beats))
        = entries.map (fun e => (e.firstBar, e.beats))
    ∧ ∀ k a b, s.meter.length ≤ k + 1 → (appendMeter s.meter entries)[k]? = some a →
        (appendMeter s.meter entries)[k + 1]? = some b →
        b.startGrain = a.startGrain + (b.firstBar - a.firstBar) * a.beats * 192

/-- R9 and R10: which pulses reach the tracker. A beat pulse is ignored in a reset period and while BEAT_SOURCE is TAP;
a TAP is taken as a pulse unless BEAT_SOURCE is LINE, and its reply carries the outcome, the state and the reported
position after it. `State.pulse` is the tracker's handling (R11; PulseOutcomes). -/
def Obligations.PulsesReachTheTracker : Prop :=
  ∀ (s : State),
    exec .beatPulse s =
      .next (if s.resetUnit.period ≠ none ∨ s.params.beatSource = .tap then s else s.pulse.1)
    ∧ ∀ rest, Waiting s kTap [] rest →
      let went := s.withRequests rest
      let r := if s.params.beatSource = .line then (went, PulseOutcome.ignored) else went.pulse
      exec .tap s = .next (r.1.withReply kTap .ok
        (.tap r.2 (r.1.tracker.modeAt r.1.showClock) (r.1.positionAt r.1.showClock)))

/-- R11, R12, R15 and R16: how a pulse at the show clock time is handled. I is the scaled interval, P the beat period. A
pulse taken with advance moves C by the step, or re-forms it when a PPB waits, limits it to the end grain and sets tc;
an accepted one also updates P (R13); a beat boundary counts towards POSITION (R16). A regaining pulse posts
BEAT_REGAINED before POSITION (log 27). -/
def Obligations.PulseOutcomes : Prop :=
  ∀ (s : State), s.resetUnit.period = none →
    let tr := s.tracker
    let period := tr.period
    let scaled := (s.showClock - tr.tc).toNat * tr.pendingPpb.getD tr.ppb
    let going := tr.mode = .following ∨ tr.mode = .waiting
    let reported := (tr.positionAt (endGrain s.meter) s.showClock).getD 0
    let confirmed :=
      let g := match tr.pendingPpb with
        | none => tr.confirmed + 192 / tr.ppb
        | some q => reported / (192 / q) * (192 / q) + 192 / q
      match endGrain s.meter with
      | some last => min g last
      | none => g
    let advanced : Tracker :=
      { mode := .following, confirmed := confirmed, tc := s.showClock, period := period
        ppb := tr.pendingPpb.getD tr.ppb, pendingPpb := none
        pulseCounter := if tr.pendingPpb.isSome then 0 else tr.pulseCounter, lossOpen := false }
    let counted := fun (u : State) (moved : Tracker) =>
      if moved.confirmed % 192 = 0 ∧ s.params.positionReport ≠ 0 then
        if s.params.positionReport ≤ moved.pulseCounter + 1 then
          ({ u with tracker := { moved with pulseCounter := 0 } }).post
            (.position (fullPos s.meter (some moved.confirmed)) (tempoOf moved.period) moved.mode)
        else { u with tracker := { moved with pulseCounter := moved.pulseCounter + 1 } }
      else { u with tracker := moved }
    (tr.mode = .stopped → s.pulse = (s, .ignored))
    ∧ (tr.mode = .free →
      s.pulse = ({ s with tracker := { tr with mode := .following, tc := s.showClock } }, .marked))
    ∧ (going → 2 * scaled < period → s.pulse = (s, .stray))
    ∧ (going → period ≤ 2 * scaled → scaled ≤ 2 * period →
      s.pulse = (counted s { advanced with period := newPeriod period s.params.followGain scaled }, .accepted))
    ∧ (going → 2 * period < scaled → s.pulse = (counted s advanced, .late))
    ∧ (tr.mode = .lost →
      s.pulse = (counted (s.post (.beatRegained (fullPos s.meter (some confirmed)) (tempoOf period))) advanced,
        .regained))

/-- R13: the tempo update of an accepted pulse. With D = I − P, the new period is P plus D × FOLLOW_GAIN / 16, rounded
to the nearest integer with a half away from zero, then clamped to 200,000 to 3,000,000 µs; before the clamp it lies
between P / 2 and 2 × P. -/
def Obligations.TempoUpdateRounds : Prop :=
  ∀ s : State,
    let tr := s.tracker
    let i := (s.showClock - tr.tc).toNat * tr.pendingPpb.getD tr.ppb
    let gain := s.params.followGain
    let d : Int := (i : Int) - tr.period
    tr.mode = .following ∨ tr.mode = .waiting → tr.period ≤ 2 * i → i ≤ 2 * tr.period →
    1 ≤ gain → gain ≤ 16 →
    ∃ adjustment : Int,
      ((s.pulse.1.tracker.period : Nat) : Int) = max 200000 (min (tr.period + adjustment) 3000000)
      ∧ 2 * |16 * adjustment - d * gain| ≤ 16
      ∧ (2 * |16 * adjustment - d * gain| = 16 → |d * gain| < |16 * adjustment|)
      ∧ (d = 8 → gain = 1 → adjustment = 1) ∧ (d = -8 → gain = 1 → adjustment = -1)
      ∧ (tr.period : Int) ≤ 2 * (tr.period + adjustment) ∧ tr.period + adjustment ≤ 2 * tr.period

/-- R6: in FOLLOWING and WAITING the reported position is below the confirmed position plus one step; and pulses, the
clamp, the loss of the beat, SET_TEMPO and the passing of time (a step with no command: log 1) never let it fall back.
No interval the part measures exceeds 2^31 µs (00, Conventions), tc's among them. -/
def Obligations.PositionNeverFallsBack : Prop :=
  (∀ (tr : Tracker) (last : Option Nat) (t : ShowTime), TrackerOk tr →
    tr.mode = .following ∨ tr.mode = .waiting →
    ∃ p, tr.positionAt last t = some p ∧ p < tr.confirmed + 192 / tr.ppb)
  ∧ (∀ (s t : State) (c : Instr), TrackerOk s.tracker →
    (c = .beatPulse ∨ c = .tap ∨ c = .clampExpiry ∨ c = .lossExpiry ∨ ∃ v, c = .setTempo v) →
    exec c s = .next t →
    ∀ p, s.positionAt s.showClock = some p → ∃ q, t.positionAt t.showClock = some q ∧ p ≤ q)
  ∧ ∀ (s t : State), TrackerOk s.tracker → (s.showClock - s.tracker.tc).toNat < 2 ^ 31 →
    s.pending = [] → step s = .next t →
    ∀ p, s.positionAt s.showClock = some p → ∃ q, t.positionAt t.showClock = some q ∧ p ≤ q

/-- R7 and R8: the clamp expiry makes FOLLOWING WAITING once (t − tc) × 192 reaches step × P; the loss expiry makes
FOLLOWING or WAITING LOST once t − tc reaches LOSS_BEATS × P, opens the episode and posts BEAT_LOST with the held
position. Neither does anything before its time or in another state (log 2). -/
def Obligations.ClampAndLossExpire : Prop :=
  ∀ (s : State),
    let tr := s.tracker
    let waited := (s.showClock - tr.tc).toNat
    let held := match endGrain s.meter with
      | some last => min (tr.confirmed + 192 / tr.ppb - 1) last
      | none => tr.confirmed + 192 / tr.ppb - 1
    exec .clampExpiry s =
      .next (if tr.mode = .following ∧ 192 / tr.ppb * tr.period ≤ waited * 192 then
        { s with tracker := { tr with mode := .waiting } } else s)
    ∧ exec .lossExpiry s =
      .next (if (tr.mode = .following ∨ tr.mode = .waiting) ∧ s.params.lossBeats * tr.period ≤ waited then
        ({ s with tracker := { tr with mode := .lost, lossOpen := true } }).post
          (.beatLost (fullPos s.meter (some held)) (tempoOf tr.period))
      else s)

/-- R17 and R150: SYNC. Its reply carries the confirmed position after it. -/
def Obligations.SyncSetsThePosition : Prop :=
  ∀ (s : State) (pos : Bbg) (body : List Byte) (rest : List Record), Waiting s kSync body rest →
    let went := s.withRequests rest
    let ppb := s.tracker.pendingPpb.getD s.tracker.ppb
    exec (.sync pos) s = .next (
      if s.tracker.mode = .stopped ∨ s.meter = [] then went.withReply kSync .refusedState .empty
      else match toGrains s.meter pos with
      | none => went.withReply kSync .badArgument .empty
      | some g =>
        let confirmed := g / (192 / ppb) * (192 / ppb)
        let set : Tracker := { s.tracker with
          confirmed := confirmed, ppb := ppb, pendingPpb := none, pulseCounter := 0 }
        ({ went with tracker :=
            if s.tracker.mode = TrackerMode.free then set
            else { set with mode := .following, tc := s.showClock, lossOpen := false } }).withReply kSync
          (if confirmed = g then .ok else .adjusted) (.position confirmed))

/-- R18: SET_TEMPO brings the value into 200 to 3,000, sets P to round(600,000,000 / value), and in FOLLOWING and
WAITING re-times the extrapolation, so that the reported position does not move and the state is kept. Past the clamp
time e is the whole step, whether or not the clamp expiry has been taken (log 18). An OK reply carries the tempo used as
an ADJUSTED one does (log 57). -/
def Obligations.SetTempoKeepsThePosition : Prop :=
  ∀ (s : State) (v : Nat) (body : List Byte) (rest : List Record), Waiting s kSetTempo body rest →
    let went := s.withRequests rest
    let tr := s.tracker
    let used := max 200 (min v 3000)
    let period := (2 * 600000000 + used) / (2 * used)
    let step := 192 / tr.ppb
    let waited := (s.showClock - tr.tc).toNat
    let e :=
      if tr.mode = .waiting ∨ step * tr.period ≤ waited * 192 then step
      else min (waited * 192 / tr.period) (step - 1)
    let tracker : Tracker :=
      if tr.mode = .following ∨ tr.mode = .waiting then
        { tr with period := period, tc := s.showClock - BitVec.ofNat 32 ((e * period + 191) / 192) }
      else { tr with period := period }
    exec (.setTempo v) s = .next (({ went with tracker := tracker }).withReply kSetTempo
      (if used = v then .ok else .adjusted) (.tempo used))
    ∧ (TrackerOk tr →
      tracker.positionAt (endGrain s.meter) s.showClock = tr.positionAt (endGrain s.meter) s.showClock
      ∧ tracker.modeAt s.showClock = tr.modeAt s.showClock)

/-! ### The cue list (02) -/

/-- R29, R26, R30 and R31: LOAD_CUE's checks in their order; a taken one stands at its number's place, its pages in lane
order and its anchor converted, and the FOLLOW timer acts as the replacement of the next cue gives. An anchor out of its
plain ranges is BAD_ARGUMENT before the map is looked at, and with no map a beat above 16 is refused as the map's
absence is: log 38's choice (DEDUCED). A commit report on its way counts as the cue's flight (log 9). -/
def Obligations.LoadCueStoresTheRecord : Prop :=
  ∀ (s : State) (c : CueRecord) (body : List Byte) (rest : List Record),
    Waiting s kLoadCue body rest → parseCue body = some c → CuesOk s.cues →
    let went := s.withRequests rest
    let refused := fun code => went.withReply kLoadCue code .empty
    let held := ∃ d ∈ s.cues, d.record.number = c.number
    let anchorGrains := match c.anchor with
      | some p => toGrains s.meter p
      | none => none
    let stored : Cue :=
      { record := { c with pages := [0, 1, 2, 3].filterMap (fun lane => c.pages.find? (fun r => r.lane == lane)) }
        anchorGrains := anchorGrains }
    let cues := s.cues.filter (fun d => d.record.number < c.number) ++ stored
      :: s.cues.filter (fun d => c.number < d.record.number)
    let follow :=
      if held ∧ s.sched.next = NextPtr.cue c.number then
        (if c.kind = CueKind.follow then some { count := 0, fresh := false } else none)
      else s.sched.follow
    (¬ CueInRange c ∨ ¬ CueFieldsAgree c ∨ ¬ (c.pages.map (fun r => r.lane)).Nodup →
      exec (.loadCue c) s = .next (refused .badArgument))
    ∧ (CueInRange c → CueFieldsAgree c → (c.pages.map (fun r => r.lane)).Nodup →
      (c.anchor ≠ none → s.meter = [] → exec (.loadCue c) s = .next (refused .refusedState))
      ∧ (c.anchor ≠ none → s.meter ≠ [] → anchorGrains = none →
        exec (.loadCue c) s = .next (refused .badArgument))
      ∧ ((c.anchor ≠ none → s.meter ≠ [] ∧ anchorGrains ≠ none) →
        (held → InUse s c.number → exec (.loadCue c) s = .next (refused .inUse))
        ∧ (¬ held → 2048 ≤ s.cues.length → exec (.loadCue c) s = .next (refused .storeFull))
        ∧ (held → ¬ InUse s c.number →
          exec (.loadCue c) s =
            .next (({ went with cues := cues, sched := { s.sched with follow := follow } }).withReply
              kLoadCue .ok (.cueLoaded false s.cues.length)))
        ∧ (¬ held → s.cues.length < 2048 →
          exec (.loadCue c) s =
            .next (({ went with cues := cues }).withReply kLoadCue .ok (.cueLoaded true (s.cues.length + 1))))))

/-- R32 to R34: DELETE_CUE refuses a cue that is not in the list or is in use; else the cue leaves the list and the
shown history, and a pointer that named it moves to the following cue, whose FOLLOW timer starts from 0. -/
def Obligations.DeleteCueMovesThePointer : Prop :=
  ∀ (s : State) (n : Nat) (body : List Byte) (rest : List Record),
    Waiting s kDeleteCue body rest → CuesOk s.cues →
    let went := s.withRequests rest
    let left := s.cues.filter (fun c => c.record.number ≠ n)
    let after := s.cues.find? (fun c => n < c.record.number)
    let history := s.sched.history.filter (fun m => m ≠ n)
    ((¬ ∃ c ∈ s.cues, c.record.number = n) →
      exec (.deleteCue n) s = .next (went.withReply kDeleteCue .notFound .empty))
    ∧ ((∃ c ∈ s.cues, c.record.number = n) → InUse s n →
      exec (.deleteCue n) s = .next (went.withReply kDeleteCue .inUse .empty))
    ∧ ((∃ c ∈ s.cues, c.record.number = n) → ¬ InUse s n →
      exec (.deleteCue n) s =
        .next (({ went with
          cues := left
          sched :=
            if s.sched.next = NextPtr.cue n then
              { s.sched with
                history := history
                next := match after with
                  | some c => .cue c.record.number
                  | none => .endOfList
                follow := match after with
                  | some c => if c.record.kind = CueKind.follow then some { count := 0, fresh := false } else none
                  | none => none }
            else { s.sched with history := history } }).withReply kDeleteCue .ok
          (.cueCount (s.cues.length - 1))))

/-- R35: READ_CUE changes nothing; its reply gives the record, the anchor grains, the standings, the history entries and
the count. -/
def Obligations.ReadCueReadsTheRecord : Prop :=
  ∀ (s : State) (n : Nat) (mode : ReadMode) (body : List Byte) (rest : List Record),
    Waiting s kReadCue body rest →
    let went := s.withRequests rest
    let found := match mode with
      | .exactly => (s.cues.filter (fun c => c.record.number = n)).head?
      | .atOrAfter => (s.cues.filter (fun c => n ≤ c.record.number)).head?
    (¬ (1 ≤ n ∧ n ≤ 65000) → exec (.readCue n mode) s = .next (went.withReply kReadCue .badArgument .empty))
    ∧ (1 ≤ n → n ≤ 65000 → found = none →
      exec (.readCue n mode) s = .next (went.withReply kReadCue .notFound .empty))
    ∧ (1 ≤ n → n ≤ 65000 → ∀ c, found = some c →
      ∃ live inFlight next : Bool,
        (live = true ↔ s.sched.live.cue = some c.record.number)
        ∧ (inFlight = true ↔ InFlight s c.record.number)
        ∧ (next = true ↔ s.sched.next = .cue c.record.number)
        ∧ exec (.readCue n mode) s =
          .next (went.withReply kReadCue .ok (.cue
            { record := c.record, anchorGrains := c.anchorGrains, live := live, inFlight := inFlight
              next := next, history := s.sched.history.count c.record.number, count := s.cues.length })))

/-- R36 and R37: CLEAR_ACT is refused with REFUSED_STATE unless the scheduler is IDLE, then with BUSY while a change is
in flight; a taken one empties the act and keeps the rest. -/
def Obligations.ClearActEmptiesTheAct : Prop :=
  ∀ (s : State) (rest : List Record), Waiting s kClearAct [] rest →
    let went := s.withRequests rest
    (s.sched.mode ≠ .idle → exec .clearAct s = .next (went.withReply kClearAct .refusedState .empty))
    ∧ (s.sched.mode = .idle → Flying s → exec .clearAct s = .next (went.withReply kClearAct .busy .empty))
    ∧ (s.sched.mode = .idle → ¬ Flying s →
      exec .clearAct s =
        .next (({ went with
          cues := [], meter := [], pages := []
          tracker := { s.tracker with mode := .stopped, confirmed := 0, pulseCounter := 0, lossOpen := false }
          sched := { s.sched with history := [], live := { s.sched.live with cue := none } }
          listener := { s.listener with slots := s.listener.slots.mapIdx (fun _ sl => { sl with latch := false }) }
          screens := s.screens.mapIdx (fun _ c => { c with live := { c.live with found := false } })
          }).withReply kClearAct .ok .empty))

/-! ### Cue scheduling and firing (03) -/

/-- R52: ARM's checks in order, and what a taken ARM sets; the live cue record, the dwell count, the history, the
blackout flag and the screens stay. A GO_LAPSED names the sweep timer's boundary (log 62). -/
def Obligations.ArmSetsTheStart : Prop :=
  ∀ (s : State) (pos : Bbg) (tempo first : Option Nat) (held : Bool) (body : List Byte) (rest : List Record),
    Waiting s kArm body rest →
    let went := s.withRequests rest
    let refused := fun code => went.withReply kArm code .empty
    let ppb := s.tracker.pendingPpb.getD s.tracker.ppb
    exec (.arm pos tempo first held) s = .next (
      if s.meter = [] then refused .refusedState
      else match toGrains s.meter pos with
      | none => refused .badArgument
      | some g =>
        if ∃ n ∈ first, n < 1 ∨ 65000 < n then refused .badArgument
        else if ∃ n ∈ first, ∀ c ∈ s.cues, c.record.number ≠ n then refused .notFound
        else
          let next : NextPtr := match first, s.cues with
            | some n, _ => .cue n
            | none, c :: _ => .cue c.record.number
            | none, [] => .endOfList
          let confirmed := g / (192 / ppb) * (192 / ppb)
          let armed : State := { went with
            tracker := { s.tracker with
              mode := .free, confirmed := confirmed, ppb := ppb, pendingPpb := none, pulseCounter := 0
              lossOpen := false
              period := match tempo with
                | some v => (2 * 600000000 + max 200 (min v 3000)) / (2 * max 200 (min v 3000))
                | none => s.tracker.period }
            sched := { s.sched with
              mode := if held then .held else .running
              next := next, follow := s.followFor next, pendingGo := none }
            listener := { s.listener with
              slots := s.listener.slots.mapIdx (fun _ sl => { sl with latch := false }) } }
          (if s.sched.pendingGo = none then armed else armed.post (.goLapsed .arm s.bus.sweepNumber)).withReply
            kArm
            (if confirmed ≠ g ∨ (∃ v ∈ tempo, v < 200 ∨ 3000 < v) then .adjusted else .ok)
            (.armed confirmed next))

/-- R53 and R57: STOP, in every scheduler state; HOLD and RELEASE are refused in IDLE, else they set HELD and RUNNING
and touch nothing else. A GO_LAPSED names the sweep timer's boundary (log 62). -/
def Obligations.StopHoldAndRelease : Prop :=
  ∀ (s : State) (rest : List Record),
    let stopped : State := { s.withRequests rest with
      tracker := { s.tracker with mode := .stopped, lossOpen := false, pulseCounter := 0 }
      sched := { s.sched with mode := .idle, next := .absent, follow := none, pendingGo := none }
      listener := { s.listener with
        slots := s.listener.slots.mapIdx (fun _ sl => { sl with latch := false }) } }
    (Waiting s kStop [] rest →
      exec .stop s = .next (
        (if s.sched.pendingGo = none then stopped
          else stopped.post (.goLapsed .stop s.bus.sweepNumber)).withReply kStop .ok .empty))
    ∧ (Waiting s kHold [] rest →
      exec .hold s = .next (if s.sched.mode = .idle then
          (s.withRequests rest).withReply kHold .refusedState .empty
        else ({ s.withRequests rest with sched := { s.sched with mode := .held } }).withReply kHold .ok .empty))
    ∧ (Waiting s kRelease [] rest →
      exec .release s = .next (if s.sched.mode = .idle then
          (s.withRequests rest).withReply kRelease .refusedState .empty
        else ({ s.withRequests rest with sched := { s.sched with mode := .running } }).withReply kRelease .ok
          .empty))

/-- R50 and R76: a firing from any source has a STAGE cue's slot lose its latch, moves the pointer, stops the FOLLOW
timer, and has the composer build a change (R77; BuildGivesEachScreenItsInstruction) from the firing's number, record
and trigger; the live cue record, the dwell count and the history stay. Waiting work is built when no change is in
flight, and only then. -/
def Obligations.FiringsAndWaitingWorkAreBuilt : Prop :=
  (∀ (s : State) (c : Cue) (trigger : Trigger) (next : NextPtr),
    let moved : State := { s with
      sched := { s.sched with next := next, follow := none }
      listener := { s.listener with
        slots := s.listener.slots.mapIdx (fun i sl =>
          if c.record.kind = CueKind.stage ∧ c.record.slot = some i.val then { sl with latch := false } else sl) } }
    s.fire c trigger next =
      moved.build (some { cue := c.record.number, trigger := trigger, record := c.record }) [] false)
  ∧ ∀ s : State,
    (s.change = none → (∃ i, Waits s i) → s.composeWork = s.build none [] false)
    ∧ (s.change ≠ none ∨ (∀ i, ¬ Waits s i) → s.composeWork = s)

/-- R54: GO refuses in IDLE and at end of list, fires at once with no change in flight, and else waits as the pending
GO, once. -/
def Obligations.GoFiresOrWaits : Prop :=
  ∀ (s : State) (rest : List Record), Waiting s kGo [] rest →
    let went := s.withRequests rest
    let refused := fun code => .next (went.withReply kGo code .empty)
    (s.sched.mode = .idle → exec .go s = refused .refusedState)
    ∧ (s.sched.mode ≠ .idle → s.nextCue? = none → exec .go s = refused .notFound)
    ∧ (s.sched.mode ≠ .idle → ∀ c, s.nextCue? = some c →
      (¬ Flying s →
        exec .go s = .next ((went.fire c .go (s.following c.record.number)).withReply kGo .ok
          (.goFired c.record.number)))
      ∧ (Flying s → s.sched.pendingGo = none →
        exec .go s = .next (({ went with sched := { s.sched with pendingGo := some .go } }).withReply kGo .ok
          .goPending))
      ∧ (Flying s → s.sched.pendingGo ≠ none → exec .go s = refused .busy))

/-- R55: JUMP's checks in order; a taken one points at the cue, then syncs to its stored anchor unless the tracker is
STOPPED, then fires or waits. That a JUMP with a sync is taken with the tracker STOPPED and leaves the sync out is log
50 (DESIGN CHOICE); R17's own answer to a sync then is a refusal. The position it synced to goes into the reply with OK
as with ADJUSTED (log 57). -/
def Obligations.JumpPointsSyncsAndFires : Prop :=
  ∀ (s : State) (n : Nat) (sync fire : Bool) (body : List Byte) (rest : List Record),
    Waiting s kJump body rest →
    let went := s.withRequests rest
    let refused := fun code => .next (went.withReply kJump code .empty)
    (s.sched.mode = .idle → exec (.jump n sync fire) s = refused .refusedState)
    ∧ (s.sched.mode ≠ .idle → n < 1 ∨ 65000 < n → exec (.jump n sync fire) s = refused .badArgument)
    ∧ (s.sched.mode ≠ .idle → 1 ≤ n → n ≤ 65000 →
      (s.cue? n = none → exec (.jump n sync fire) s = refused .notFound)
      ∧ ∀ c, s.cue? n = some c →
        (sync = true → c.anchorGrains = none → exec (.jump n sync fire) s = refused .badArgument)
        ∧ ((sync = true → c.anchorGrains ≠ none) →
          (fire = true → s.sched.pendingGo ≠ none → Flying s → exec (.jump n sync fire) s = refused .busy)
          ∧ (¬ (fire = true ∧ s.sched.pendingGo ≠ none ∧ Flying s) →
            let ppb := s.tracker.pendingPpb.getD s.tracker.ppb
            let target := if sync ∧ s.tracker.mode ≠ .stopped then c.anchorGrains else none
            let brought := target.map (fun g => g / (192 / ppb) * (192 / ppb))
            let pointed : State := { went with
              sched := { s.sched with next := .cue n, follow := s.followFor (.cue n) }
              tracker := match brought with
                | none => s.tracker
                | some g =>
                  let set : Tracker := { s.tracker with
                    confirmed := g, ppb := ppb, pendingPpb := none, pulseCounter := 0 }
                  if s.tracker.mode = .free then set
                  else { set with mode := .following, tc := s.showClock, lossOpen := false } }
            let code : Status := if brought = target then .ok else .adjusted
            (fire = false → exec (.jump n sync fire) s =
              .next (pointed.withReply kJump code (.jumped .pointed brought)))
            ∧ (fire = true → Flying s → exec (.jump n sync fire) s =
              .next (({ pointed with sched := { pointed.sched with pendingGo := some .jump } }).withReply kJump
                code (.jumped .pending brought)))
            ∧ (fire = true → ¬ Flying s → exec (.jump n sync fire) s =
              .next ((pointed.fire c .jump (s.following c.record.number)).withReply kJump code
                (.jumped .fired brought))))))

/-- R56: BACK's refusals in order; a taken one fires the entry before the newest, points at the newest, and makes the
scheduler HELD. The history stays until the commit. A GO_LAPSED names the sweep timer's boundary (log 62). -/
def Obligations.BackFiresTheEntryBefore : Prop :=
  ∀ (s : State) (rest : List Record), Waiting s kBack [] rest →
    let went := s.withRequests rest
    let refused := fun code => .next (went.withReply kBack code .empty)
    (s.sched.mode = .idle → exec .back s = refused .refusedState)
    ∧ (s.sched.mode ≠ .idle → s.sched.history.length < 2 → exec .back s = refused .notFound)
    ∧ (s.sched.mode ≠ .idle → ∀ older x y, s.sched.history = older ++ [y, x] →
      (Flying s → exec .back s = refused .busy)
      ∧ (¬ Flying s → ∀ c, s.cue? y = some c →
        let fired := went.fire c .back (.cue x)
        let back : State := { fired with
          sched := { fired.sched with mode := .held, follow := s.followFor (.cue x), pendingGo := none } }
        exec .back s = .next (
          (if s.sched.pendingGo = none then back
            else back.post (.goLapsed .back s.bus.sweepNumber)).withReply kBack .ok .empty)))

/-- R46 with R41, R44 and R45: at a boundary it takes the scheduler raises its counts, then fires a pending GO, or makes
the walk (WalkFiresTheChosenCue), or does nothing more. The GO_LAPSED of a pending GO at end of list names the sweep
timer's boundary (log 62). A commit report on its way counts as a change in flight (log 9). -/
def Obligations.SchedulerBoundaryInOrder : Prop :=
  ∀ (s : State) (b : Boundary) (due : List Boundary),
    s.bus.schedulerDue = b :: due → s.resetUnit.period = none →
    let timer := fun (t : FollowTimer) =>
      if s.sched.noRise ∧ t.fresh then { t with fresh := false }
      else ({ count := min (t.count + 1) 3000, fresh := false } : FollowTimer)
    let raised : State := { s with
      bus := { s.bus with schedulerDue := due }
      sched := { s.sched with
        dwell := if s.sched.noRise then s.sched.dwell else min (s.sched.dwell + 1) 1000
        noRise := false
        follow := s.sched.follow.map timer } }
    (Flying s ∨ s.sched.mode = .idle ∨ (s.sched.mode = .held ∧ s.sched.pendingGo = none) →
      exec .schedulerBoundary s = .next raised)
    ∧ (¬ Flying s → s.sched.mode ≠ .idle → ∀ g, s.sched.pendingGo = some g →
      let emptied : State := { raised with sched := { raised.sched with pendingGo := none } }
      exec .schedulerBoundary s = .next (match s.nextCue? with
        | some c => emptied.fire c (match g with | .go => .go | .jump => .jump) (s.following c.record.number)
        | none => emptied.post (.goLapsed .endOfList s.bus.sweepNumber)))
    ∧ (¬ Flying s → s.sched.mode = .running → s.sched.pendingGo = none →
      exec .schedulerBoundary s = .next (raised.evaluate b))

/-- R47, R48 and R44: when a cue is ready at a boundary; `first` says it is the first walked, `used` holds the slots
whose latch has readied an earlier cue. The tracker is read at the boundary's time, or at that of a pulse taken since
(log 3); a FOLLOW delay is counted in sweeps of SWEEP_PERIOD as it stands (log 37). The link counts as quiet by this
part's link while it drives, else by the mirror's. The walk goes through the cues from the pointer's on, through none at
end of list. Each cue of the ready set is ready where it stands; the walk goes on from it to the next cue and ends at
the first that is not ready or at the end of the list. So no cue of the set is MANUAL, a FOLLOW cue stands first, and no
two STAGE cues are readied by one latch. -/
def Obligations.ReadinessOfEachKind : Prop :=
  (∀ (s : State) (b : Boundary) (first : Bool) (used : List (Fin 4)) (c : Cue),
    let period := b.periodMs * 1000
    let lead := (match c.record.leadMs with | some ms => ms | none => s.params.defaultLead) * 1000 + period
      + s.params.tileLatency * 1000 + (if s.linkQuiet then 2 * period else 0)
    let grains := min (lead * 192 / s.tracker.period) 768
    (c.record.kind = .manual → s.readyAt b first used c = false)
    ∧ (c.record.kind = .timed →
      (s.readyAt b first used c = true ↔
        (s.tracker.mode = .following ∨ s.tracker.mode = .waiting)
        ∧ ∃ p anchor, s.positionAt (s.readingTime b) = some p ∧ c.anchorGrains = some anchor
          ∧ anchor ≤ p + grains))
    ∧ (c.record.kind = .follow →
      (s.readyAt b first used c = true ↔
        first = true ∧ ∃ timer delay, s.sched.follow = some timer ∧ c.record.delayMs = some delay
          ∧ (delay + s.params.sweepPeriod - 1) / s.params.sweepPeriod ≤ timer.count))
    ∧ (c.record.kind = .stage →
      (s.readyAt b first used c = true ↔
        ∃ i : Fin 4, c.record.slot = some i.val ∧ (s.listener.slots.get i).latch = true ∧ i ∉ used)))
  ∧ (∀ s : State, s.linkQuiet = true ↔
      ((s.own.state = .driving ∨ s.own.state = .releasing) ∧ (s.bus.link = .quiet ∨ s.bus.link = .waking))
      ∨ ((s.own.state = .shadow ∨ s.own.state = .granted) ∧ (s.mirror.link = .quiet ∨ s.mirror.link = .waking)))
  ∧ (∀ s : State, s.fromPointer = match s.sched.next with
      | .cue n => s.cues.filter (fun c => decide (n ≤ c.record.number))
      | .endOfList => []
      | .absent => [])
  ∧ ∀ (s : State) (b : Boundary),
    s.readySet b <+: s.fromPointer
    ∧ (∀ (before after : List Cue) (c : Cue) (used : List (Fin 4)),
        (∀ i, i ∈ used ↔ ∃ d ∈ before, d.record.kind = .stage ∧ d.record.slot = some i.val) →
        (s.readySet b = before ++ c :: after → s.readyAt b (decide (before = [])) used c = true)
        ∧ (s.readySet b = before → s.fromPointer = before ++ c :: after →
          s.readyAt b (decide (before = [])) used c = false))
    ∧ (∀ c ∈ s.readySet b, c.record.kind ≠ .manual)
    ∧ (∀ c ∈ (s.readySet b).tail, c.record.kind ≠ .follow)
    ∧ (s.readySet b).Pairwise (fun c d => c.record.kind = .stage → d.record.kind = .stage →
        c.record.slot ≠ d.record.slot)

/-- R49: the choice. -/
def Obligations.ChoiceOfTheReadySet : Prop :=
  ∀ (ready : List Cue) (last : Cue),
    choose [] = none
    ∧ ((∀ c ∈ ready, c.record.essential = false) → choose (ready ++ [last]) = some last)
    ∧ (∀ (before after : List Cue) (c : Cue), ready = before ++ c :: after → c.record.essential = true →
        (∀ d ∈ before, d.record.essential = false) → choose (ready ++ [last]) = some c)

/-- R42 and R49 to R51: what an evaluation does with its chosen cue. The ready cues before it are skipped in order, each
with its notice and its latch, and it fires with the trigger of its kind, if the live cue's dwell has run or it is cut;
else nothing. The dwell has run when no cue is live, or when the dwell count has reached the live cue's dwell_ms, else
DEFAULT_DWELL, in sweeps of the period that begins at the boundary, rounded up. The position a CUE_SKIPPED carries is
read at the boundary's time, or at that of a pulse taken since (log 3). -/
def Obligations.WalkFiresTheChosenCue : Prop :=
  ∀ (s : State) (b : Boundary),
    (s.readySet b = [] → s.evaluate b = s)
    ∧ (∀ c, choose (s.readySet b) = some c →
      (s.dwellRun b = false → c.record.cut = false → s.evaluate b = s)
      ∧ (s.dwellRun b = true ∨ c.record.cut = true → ∀ (before after : List Cue) (trigger : Trigger),
          s.readySet b = before ++ c :: after →
          (∀ d ∈ before, d.record.number < c.record.number) →
          (c.record.kind = .timed ∧ trigger = .timed) ∨ (c.record.kind = .follow ∧ trigger = .follow)
            ∨ (c.record.kind = .stage ∧ trigger = .stage) →
          let skipped := before.foldl (fun t d =>
            (t.consumeLatch d.record).post (.cueSkipped d.record.number .overtaken c.record.number b.number
              (s.fullPositionAt (s.readingTime b)))) s
          s.evaluate b = skipped.fire c trigger (s.following c.record.number)))
    ∧ (s.sched.live.cue = none → s.dwellRun b = true)
    ∧ (∀ n, s.sched.live.cue = some n →
      let ms := ((s.cue? n).bind (fun c => c.record.dwellMs)).getD s.params.defaultDwell
      (s.dwellRun b = true ↔ (ms + b.periodMs - 1) / b.periodMs ≤ s.sched.dwell))

/-- R42: a firing from the walk never replaces the live cue before its dwell has run, unless the new cue is cut: the
change in flight, the pointer and the latches then stay. -/
def Obligations.DwellProtectsTheLiveCue : Prop :=
  ∀ (s t : State) (b : Boundary) (due : List Boundary) (live : Cue),
    s.bus.schedulerDue = b :: due → s.sched.pendingGo = none →
    s.sched.live.cue = some live.record.number → s.cue? live.record.number = some live →
    let ms := live.record.dwellMs.getD s.params.defaultDwell
    let count := if s.sched.noRise then s.sched.dwell else min (s.sched.dwell + 1) 1000
    count < (ms + b.periodMs - 1) / b.periodMs →
    (∀ c ∈ s.cues, c.record.cut = false) →
    exec .schedulerBoundary s = .next t →
    t.change = s.change ∧ t.sched.next = s.sched.next ∧ t.listener = s.listener ∧ t.port = s.port

/-- R58 with R43: the scheduler takes a commit report. -/
def Obligations.CommitReportMakesTheCueLive : Prop :=
  ∀ (s : State) (r : CommitReport) (later : List CommitReport), s.reports = r :: later →
    let before := s.bus.schedulerDue.any (fun b => b.number == r.sweep)
    let pushed := (if s.sched.history.length < 8 then s.sched.history else s.sched.history.tail) ++ [r.cue]
    exec .commitReport s = .next (({ s with
      reports := later
      sched := { s.sched with
        live := { cue := some r.cue, sweep := r.sweep, trigger := some r.trigger }
        dwell := 0
        noRise := before
        history := if r.trigger = Trigger.back then s.sched.history.dropLast else pushed
        follow :=
          if s.sched.mode ≠ SchedMode.idle ∧ s.namesFollow s.sched.next = true ∧ s.sched.follow = none then
            some { count := 0, fresh := before }
          else s.sched.follow } }).post (.cueLive r))

/-! ### Page store and screens (04) -/

/-- R67 and R68 with R65: the checks of LOAD_PAGE and DELETE_PAGE in order. A taken page stands at its id's place; a
deleted one leaves the store, and cues and overrides keep naming it. -/
def Obligations.PagesAreLoadedAndDeleted : Prop :=
  (∀ (s : State) (p : Page) (body : List Byte) (rest : List Record),
    Waiting s kLoadPage body rest → parsePage body = some p → PagesOk s.pages →
    let went := s.withRequests rest
    let refused := fun code => .next (went.withReply kLoadPage code .empty)
    let glyphs := fun (ps : List Page) => (ps.map (fun q => (q.lines.map List.length).sum)).sum
    let held := ∃ q ∈ s.pages, q.id = p.id
    let pages := s.pages.filter (fun q => q.id < p.id) ++ p :: s.pages.filter (fun q => p.id < q.id)
    (¬ PageInRange p → exec (.loadPage p) s = refused .badArgument)
    ∧ (PageInRange p → held → PageInUse s p.id → exec (.loadPage p) s = refused .inUse)
    ∧ (PageInRange p → ¬ (held ∧ PageInUse s p.id) → 262144 < glyphs pages →
      exec (.loadPage p) s = refused .storeFull)
    ∧ (PageInRange p → ¬ (held ∧ PageInUse s p.id) → glyphs pages ≤ 262144 →
      ∃ inserted : Bool, (inserted = true ↔ ¬ held)
        ∧ exec (.loadPage p) s =
          .next (({ went with pages := pages }).withReply kLoadPage .ok (.pageLoaded inserted (glyphs pages)))))
  ∧ ∀ (s : State) (id : Nat) (body : List Byte) (rest : List Record),
    Waiting s kDeletePage body rest →
    let went := s.withRequests rest
    let refused := fun code => .next (went.withReply kDeletePage code .empty)
    let held := ∃ q ∈ s.pages, q.id = id
    let left := s.pages.filter (fun q => q.id ≠ id)
    (id < 1 ∨ 4095 < id → exec (.deletePage id) s = refused .badArgument)
    ∧ (1 ≤ id → id ≤ 4095 → ¬ held → exec (.deletePage id) s = refused .notFound)
    ∧ (1 ≤ id → id ≤ 4095 → held → PageInUse s id → exec (.deletePage id) s = refused .inUse)
    ∧ (1 ≤ id → id ≤ 4095 → held → ¬ PageInUse s id →
      exec (.deletePage id) s = .next (({ went with pages := left }).withReply kDeletePage .ok
        (.glyphs (left.map (fun (q : Page) => (q.lines.map List.length).sum)).sum)))

/-- R70, R74 and R103: SET_SCREEN's refusals; a taken one sets the screen afresh, makes its addresses' tiles UNKNOWN
(those of the old list and of the new: log 15), and hands the composer an initial blank if the screen is enabled. Its
tag counter and partial mark stay (log 47). The three checks are made in this order (log 41). BUSY also while a commit
report is on its way (log 9). -/
def Obligations.SetScreenStartsAfresh : Prop :=
  ∀ (s : State) (n : Nat) (setup : Option ScreenSetup) (body : List Byte) (rest : List Record),
    Waiting s kSetScreen body rest →
    let went := s.withRequests rest
    let refused := fun code => .next (went.withReply kSetScreen code .empty)
    (s.sched.mode ≠ .idle → exec (.setScreen n setup) s = refused .refusedState)
    ∧ (s.sched.mode = .idle → Flying s → exec (.setScreen n setup) s = refused .busy)
    ∧ (s.sched.mode = .idle → ¬ Flying s → 4 ≤ n → exec (.setScreen n setup) s = refused .badArgument)
    ∧ (s.sched.mode = .idle → ¬ Flying s → ∀ i : Fin 4, i.val = n →
      ((∃ u ∈ setup, ¬ SetupInRange u ∨ ∃ j, j ≠ i ∧ ∃ a ∈ u.tiles, a ∈ (s.screens.get j).tiles) →
        exec (.setScreen n setup) s = refused .badArgument)
      ∧ ((∀ u ∈ setup, SetupInRange u ∧ ∀ j, j ≠ i → ∀ a ∈ u.tiles, a ∉ (s.screens.get j).tiles) →
        let old := s.screens.get i
        let touched := old.tiles ++ (match setup with | some u => u.tiles | none => [])
        let cueSource : CueSource :=
          match setup, s.sched.live.cue with
          | none, _ => .blank none
          | some _, none => .blank none
          | some u, some m =>
            match (s.cue? m).bind (fun c => c.record.pages.find? (fun r => r.lane == u.lane)) with
            | some r => .page m r.page
            | none => .blank (some m)
        let fresh : Screen := { old with
          setup := setup, cueSource := cueSource, override := none
          live := { source := .blank none, found := false }, pendingShown := none, liveTag := 0, edit := none
          initialBlank := setup.isSome, kept := [] }
        let set : State := { went with
          screens := s.screens.set i fresh
          bus := { s.bus with tiles := s.bus.tiles.map (fun t =>
            if t.address ∈ touched then
              { t with state := .unknown, lastTag := none, repairDue := false, repairTag := none, heldTags := [] }
            else t) } }
        exec (.setScreen n setup) s = .next (set.composeWork.withReply kSetScreen .ok .empty)))

/-- R81 to R83: the checks of SHOW_PAGE and CLEAR_OVERRIDE in order; a taken one puts its edit into the override set for
the screens named, and the composer takes it (R76). GROUP_HOLD sets the flag; GROUP_RELEASE clears it and lets the held
edits be built, and is refused while the flag is clear. Under group hold the body says so also during a flight (log 71).
-/
def Obligations.OverrideEditsAndGroups : Prop :=
  (∀ (s : State) (page : Nat) (place : Place) (body : List Byte) (rest : List Record),
    let went := s.withRequests rest
    let ofLane := fun (l : Nat) => fourNumbers.filter (fun i => ((s.screens.get i).setup.map (fun u => u.lane)) = some l)
    let wrong : Option Status := match place with
      | .screen n =>
        if h : n < 4 then (if (s.screens.get ⟨n, h⟩).setup = none then some .refusedState else none)
        else some .badArgument
      | .lane l => if 3 < l then some .badArgument else if ofLane l = [] then some .notFound else none
    let named : List (Fin 4) := match place with
      | .screen n => if h : n < 4 then [⟨n, h⟩] else []
      | .lane l => ofLane l
    let lane : Nat := match place with
      | .screen n => if h : n < 4 then ((s.screens.get ⟨n, h⟩).setup.map (fun u => u.lane)).getD 0 else 0
      | .lane l => l
    let standing : EditStanding :=
      if s.groupHold then .grouped else if s.change.isSome then .waits else .issued
    let edited := fun (e : OverrideEdit) => ({ went with
      screens := s.screens.mapIdx (fun i c => if i ∈ named then { c with edit := some e } else c) }).composeWork
    (Waiting s kShowPage body rest →
      exec (.showPage page place) s = .next (
        if page < 1 ∨ 4095 < page then went.withReply kShowPage .badArgument .empty
        else match wrong with
        | some code => went.withReply kShowPage code .empty
        | none =>
          match s.page? page with
          | none => went.withReply kShowPage .notFound .empty
          | some p =>
            if p.lane ≠ lane then went.withReply kShowPage .badArgument .empty
            else (edited (.set page)).withReply kShowPage .ok (.edit standing (named.filter (fun i =>
              ∃ u ∈ (s.screens.get i).setup, ∃ l ∈ p.lines, u.tiles.length * u.cpt < l.length)))))
    ∧ (Waiting s kClearOverride body rest →
      exec (.clearOverride place) s = .next (match wrong with
        | some code => went.withReply kClearOverride code .empty
        | none => (edited .clear).withReply kClearOverride .ok (.edit standing []))))
  ∧ ∀ (s : State) (rest : List Record),
    let went := s.withRequests rest
    (Waiting s kGroupHold [] rest →
      exec .groupHold s = .next (({ went with groupHold := true }).withReply kGroupHold .ok .empty))
    ∧ (Waiting s kGroupRelease [] rest →
      exec .groupRelease s = .next (
        if s.groupHold = true then
          ({ went with groupHold := false }).composeWork.withReply kGroupRelease .ok .empty
        else went.withReply kGroupRelease .refusedState .empty))

/-- R77, R71, R72, R74 and R95: a build takes the firing, if any, a superseded change's sources, and all waiting work.
It gives every enabled screen its cue source and override, and an entry: BLANK for an initial blank, whose source is
BLANK naming no cue (log 14); SWAP with a new tag and the page's segments, or BLANK, where the target must be
transferred; NONE where only the record changes (log 52); else none. Without a firing and an entry, and with no cue
source or override changed, nothing is handed over; a takeover's build does not look at the sources (log 23). What is
handed over is in flight with its required set (every tile of the SWAP screens but the OUT ones), nothing acknowledged
and count 0; the screens' pending sources and the counters of the tags issued follow it, and a content frame under way
is stopped (log 40), a repair frame not (log 66). A firing's clipped and missing lanes are judged for lanes that an
enabled screen shows (log 16), a page stored under another lane being missing and not clipped (log 65). A new tag is the
first after the counter, 1 following 255, that is neither the screen's live tag nor a held tag of a tile of it (eight
tiles of at most three held tags never hold more than 24). -/
def Obligations.BuildGivesEachScreenItsInstruction : Prop :=
  (∀ (s : State) (firing : Option Firing) (carried : List Take) (takeover : Bool),
    let takeOf := fun (i : Fin 4) (u : ScreenSetup) =>
      let screen := s.screens.get i
      let base : Take := (carried.find? (fun t => t.screen == i)).getD
        { screen := i, cueSource := screen.cueSource, override := screen.override }
      ({ screen := i
         cueSource := match firing with
          | some f => (match f.record.pages.find? (fun r => r.lane == u.lane) with
            | some r => .page f.record.number r.page
            | none => .blank (some f.record.number))
          | none => base.cueSource
         override := match screen.edit with
          | some (.set p) => if s.groupHold then base.override else some p
          | some .clear => if s.groupHold then base.override else none
          | none => base.override } : Take)
    let entryOf := fun (i : Fin 4) (u : ScreenSetup) =>
      let screen := s.screens.get i
      let source : Source :=
        if s.sched.blackout then .dark
        else match (takeOf i u).override with
        | some p => .override p
        | none => match (takeOf i u).cueSource with
          | .page n p => .cue n p
          | .blank n => .blank n
      let found := match source.page? with
        | some id => (s.page? id).filter (fun p => p.lane == u.lane)
        | none => none
      let target : Shown := { source := source, found := found.isSome }
      let same := (found = none ∧ ShowsBlank screen)
        ∨ (found ≠ none ∧ screen.live.found = true ∧ source.page? = screen.live.source.page?)
      if screen.initialBlank then
        some ({ screen := i, shown := { source := .blank none, found := false }, instr := .blank, segments := [] } : Entry)
      else if screen.reissue = true ∨ ¬ same then
        some (match found with
          | some p => { screen := i, shown := target, instr := .swap (s.newTag screen), segments := segmentsOf u p }
          | none => { screen := i, shown := target, instr := .blank, segments := [] })
      else if source ≠ screen.live.source then
        some { screen := i, shown := target, instr := .none, segments := [] }
      else none
    let entry := fun (i : Fin 4) => (s.screens.get i).setup.bind (entryOf i)
    let takes := fourNumbers.filterMap (fun i => (s.screens.get i).setup.map (takeOf i))
    let entries := fourNumbers.filterMap entry
    let nothing := firing = none ∧ entries = [] ∧ (takeover = true ∨ ∀ t ∈ takes,
      t.cueSource = (s.screens.get t.screen).cueSource ∧ t.override = (s.screens.get t.screen).override)
    let spent := fun (c : Screen) => { c with
      edit := if s.groupHold then c.edit else none, restore := false, reissue := false, initialBlank := false }
    let shows := fun (l : Nat) (test : ScreenSetup → Bool) =>
      fourNumbers.any (fun i => (s.screens.get i).setup.any (fun u => u.lane == l && test u))
    let stored := fun (r : PageRef) => (s.page? r.page).filter (fun p => p.lane == r.lane)
    let lanes := fun (test : PageRef → Bool) =>
      match firing with | some f => (f.record.pages.filter test).map (fun r => r.lane) | none => []
    let transfer : Bool := match s.bus.window with
      | some w => decide (w.frame = SlotFrame.first ∨ w.frame = SlotFrame.retry)
      | none => false
    (nothing → s.build firing carried takeover = { s with screens := s.screens.mapIdx (fun _ c => spent c) })
    ∧ (¬ nothing → s.build firing carried takeover = { s with
        screens := s.screens.mapIdx (fun i c => { spent c with
          pendingShown := (entry i).map (fun e => e.shown)
          tagCounter := match (entry i).map (fun e => e.instr) with
            | some (ScreenInstr.swap tag) => tag
            | _ => c.tagCounter })
        change := some
          { firing := firing, takes := takes, entries := entries
            clipped := lanes (fun r => (stored r).any (fun p => shows r.lane (fun u =>
              p.lines.any (fun l => decide (u.tiles.length * u.cpt < l.length)))))
            missing := lanes (fun r => (stored r).isNone && shows r.lane (fun _ => true))
            blackout := false, builtDark := s.sched.blackout
            initialBlanks := fourNumbers.filter (fun i =>
              (s.screens.get i).setup.isSome && (s.screens.get i).initialBlank)
            required := entries.flatMap (fun e => match e.instr with
              | .swap _ => (s.screens.get e.screen).tiles.filter (fun a => !s.isOut a)
              | _ => [])
            acked := [], markCount := 0
            whole := match s.bus.interval with
              | some iv => decide ((s.showClock - iv.start).toNat < 1000)
              | none => false }
        bus := { s.bus with
          window := if transfer then none else s.bus.window
          interval := s.bus.interval.map (fun iv => { iv with
            attempted := [], failed := [], retried := []
            busy := if transfer then min iv.busy iv.next else iv.busy }) } }))
  ∧ ∀ (s : State) (c : Screen),
    let held := (s.bus.tiles.filter (fun t => c.tiles.contains t.address)).flatMap (fun t => t.heldTags)
    let next := fun (n : Nat) => if 255 ≤ n then 1 else n + 1
    held.length ≤ 253 →
    1 ≤ s.newTag c ∧ s.newTag c ≤ 255 ∧ s.newTag c ≠ c.liveTag ∧ s.newTag c ∉ held
    ∧ ∃ k, s.newTag c = next^[k + 1] c.tagCounter
      ∧ ∀ j < k, next^[j + 1] c.tagCounter = c.liveTag ∨ next^[j + 1] c.tagCounter ∈ held

/-- R73 and R74: each laid-out line fills the width, a shorter one centred with the odd column on the right, a longer
one clipped; a tile's segment holds its columns of the three lines, top line first. -/
def Obligations.LayoutFillsTheTiles : Prop :=
  (∀ (width : Nat) (line : List Glyph),
    (layLine width line).length = width
    ∧ (line.length ≤ width → ∃ left right, layLine width line =
        List.replicate left space ++ line ++ List.replicate right space ∧ (right = left ∨ right = left + 1))
    ∧ (width < line.length → layLine width line <+: line))
  ∧ ∀ (u : ScreenSetup) (p : Page) (k tile : Nat), u.tiles[k]? = some tile →
    ∃ seg, (segmentsOf u p)[k]? = some seg ∧ seg.tile = tile ∧ seg.codes.length = 3 * u.cpt
      ∧ ∀ row column, row < 3 → column < u.cpt →
        seg.codes[row * u.cpt + column]? =
          (layLine (u.tiles.length * u.cpt) (p.lines.getD row []))[k * u.cpt + column]?

/-! ### Panel bus, sweeps and the link (05, 06) -/

/-- R86: when the sweep timer expires outside a reset period the number rises by 1, 65,535 being followed by 0, the
timer starts a sweep of SWEEP_PERIOD as read now, and the boundary reaches the controller, the scheduler and the
ownership unit; in a show-safe reset's period it reaches the controller alone (R63, R139), in a full one's nothing
happens. Before its time, or with no timer, nothing happens (log 2). However late it is delivered, the boundary's time
is the start plus the length of the sweep that expired (log 3). -/
def Obligations.SweepBoundaryReachesThreeBlocks : Prop :=
  ∀ (s : State),
    (∀ timer, s.bus.timer = some timer → timer.length ≤ (s.showClock - timer.start).toNat →
      let time := timer.start + BitVec.ofNat 32 timer.length
      let b : Boundary :=
        { number := s.bus.sweepNumber + 1, time := time, periodMs := s.params.sweepPeriod, byPeer := false }
      let begun : PanelBus := { s.bus with
        timer := some { start := time, length := s.params.sweepPeriod * 1000 }
        sweepNumber := s.bus.sweepNumber + 1
        controllerDue := s.bus.controllerDue ++ [b] }
      (s.resetUnit.period = none → exec .sweepBoundary s = .next { s with bus := { begun with
        schedulerDue := s.bus.schedulerDue ++ [b], ownershipDue := s.bus.ownershipDue ++ [b] } })
      ∧ ∀ p, s.resetUnit.period = some p →
        (p.showSafe = true → exec .sweepBoundary s = .next { s with bus := begun })
        ∧ (p.showSafe = false → exec .sweepBoundary s = .next s))
    ∧ ((∀ timer ∈ s.bus.timer, (s.showClock - timer.start).toNat < timer.length) →
      exec .sweepBoundary s = .next s)

/-- R87 to R89, R91, R96, R100, R105, R108 and R116: in DRIVING with the link ACTIVE and no change in flight, a boundary
sends a mark whose instructions are the ready repairs', else NONE, opens the interval, and counts towards QUIET if the
link could rest; a change that needs a tile still outstanding stays in flight, and its count rises if it was in flight
before the first slot of the interval the mark closes, while that stays below GRACE_SWEEPS. In SHADOW with no change in
flight, and in GRANTED, nothing is sent. A boundary that finds a partial mark to clear clears it, with a reissue of an
enabled screen, before its mark or after it (a free value: log 10). In a show-safe reset's period keep-alive marks go
out as the link state calls for them (R117, R118, R120); REFRESH_MARK and WAKE_DONE are the boundaries they name (log
12). A mark's reading of the tracker is at the boundary's time, or at that of a pulse taken since (log 3). A repair is
ready with the tag its tile acknowledged (log 73). -/
def Obligations.MarksWithoutACommit : Prop :=
  (∀ (s : State) (b : Boundary) (due : List Boundary),
    s.bus.controllerDue = b :: due → NoClearing s →
    (s.own.state = .driving → s.bus.link = .active → s.change = none →
      (CouldRest s → s.bus.quietCount + 1 < s.params.quietDelay) →
      exec .controllerBoundary s = .next (
        ({ s with bus := { s.bus with
            controllerDue := due
            quietCount := if CouldRest s then s.bus.quietCount + 1 else 0 } }).withMark b false false false true))
    ∧ ((s.own.state = .shadow ∧ s.change = none) ∨ s.own.state = .granted →
      exec .controllerBoundary s = .next (s.withControllerDue due)))
  ∧ (∀ (s : State) (b : Boundary) (due : List Boundary) (c : Change),
    s.bus.controllerDue = b :: due → NoClearing s → Marks s → s.bus.link = .active →
    s.change = some c → (∃ a ∈ c.required, a ∉ c.acked) →
    (c.whole = true → c.markCount + 1 < s.params.graceSweeps) →
    exec .controllerBoundary s = .next (
      ({ s with
          change := some { c with markCount := if c.whole = true then c.markCount + 1 else c.markCount }
          bus := { s.bus with controllerDue := due, quietCount := 0 } }).withMark b false false false true))
  ∧ (∀ (s : State) (b : Boundary) (due : List Boundary),
    s.bus.controllerDue = b :: due → s.resetUnit.period = none → (∃ i, ClearDue s i) →
    s.bus.tiles.map (fun t => t.address) = (List.range 16).map (fun k => k + 1) →
    let found := fun (i : Fin 4) => decide (ClearDue s i)
    let spent : State := { s with freeCount := s.freeCount + 1 }
    let went := spent.withControllerDue due
    (Config.partialClearFirst s.freeCount = true →
      exec .controllerBoundary s = exec .controllerBoundary (spent.withCleared found))
    ∧ (Config.partialClearFirst s.freeCount = false →
      ((s.own.state = .shadow ∧ s.change = none) ∨ s.own.state = .granted →
        exec .controllerBoundary s = .next (went.withCleared found))
      ∧ (s.own.state = .driving → s.bus.link = .active → s.change = none →
        (CouldRest s → s.bus.quietCount + 1 < s.params.quietDelay) →
        exec .controllerBoundary s = .next ((({ went with bus := { went.bus with
          quietCount := if CouldRest s then s.bus.quietCount + 1 else 0 } }).withMark b false false false
            true).withCleared found))))
  ∧ ∀ (s : State) (b : Boundary) (due : List Boundary),
    s.bus.controllerDue = b :: due → s.resetUnit.period ≠ none → s.change = none →
    (s.own.state = .shadow ∨ s.own.state = .granted →
      exec .controllerBoundary s = .next (s.withControllerDue due))
    ∧ (s.own.state = .driving →
      (s.bus.link = .active → exec .controllerBoundary s = .next
        (({ s with bus := { s.bus with controllerDue := due, quietCount := 0 } }).withKeepAlive b false false))
      ∧ (s.bus.link = .quiet →
        (16 ≤ s.bus.sinceMark + 1 →
          exec .controllerBoundary s = .next ((s.withControllerDue due).withKeepAlive b true false)
          ∧ exec .refreshMark s = .next ((s.withControllerDue due).withKeepAlive b true false))
        ∧ (s.bus.sinceMark + 1 < 16 → exec .controllerBoundary s = .next { s with bus := { s.bus with
            controllerDue := due, sinceMark := s.bus.sinceMark + 1, interval := none } }))
      ∧ (s.bus.link = .waking →
        (s.bus.sinceWake + 1 < 2 → exec .controllerBoundary s = .next (({ s with bus := { s.bus with
            controllerDue := due, sinceWake := s.bus.sinceWake + 1 } }).withKeepAlive b false true))
        ∧ (2 ≤ s.bus.sinceWake + 1 →
          let woken := (({ s with bus := { s.bus with controllerDue := due, link := .active } }).withKeepAlive b false
            false)
          exec .controllerBoundary s = .next woken ∧ exec .wakeDone s = .next woken)))

/-- R96, R97, R78, R89 and R105: on an ACTIVE link a change whose required tiles have all acknowledged commits at the
mark. The mark carries each screen's instruction, PARTIAL_POLICY turning a SWAP with a tile OUT into BLANK (R99), and
the ready repairs of the screens it gives none; the screens take the change's sources, tags and segments; a firing makes
its commit report; and the composer then builds what waits, the restores of initial blanks among it. R126: in SHADOW the
change commits notionally, without a mark. R135: a RELEASING part with nothing held stops at its boundary, a change in
flight committing notionally there. The report's position and the mark's reading are at the boundary's time, or at that
of a pulse taken since (log 3); a notional commit does not apply PARTIAL_POLICY (log 31); a BLANK ends a ready repair of
its screen (log 32), and a repair is ready with the tag its tile acknowledged (log 73). -/
def Obligations.AcknowledgedChangeCommits : Prop :=
  ∀ (s : State) (b : Boundary) (due : List Boundary),
    s.bus.controllerDue = b :: due →
    let went := s.withControllerDue due
    (∀ c, NoClearing s → Marks s → s.bus.link = .active → s.change = some c →
      (∀ a ∈ c.required, a ∈ c.acked) →
      exec .controllerBoundary s = .next (({ went with bus := { went.bus with quietCount := 0 } }).withCommitMark b c
        false false false true))
    ∧ (∀ c, NoClearing s → s.own.state = .shadow → s.change = some c →
      exec .controllerBoundary s = .next ((went.withCommit b c false).withRestores c))
    ∧ (s.own.state = .releasing → s.own.heldChange = false ∨ s.change = none →
      let after : OwnerState := if s.own.grant then .granted else .shadow
      let ended := fun (u : State) => ({ u with
        own := { s.own with
          state := after, drive := false, bothDriving := false, contention := 0, heldChange := false }
        bus := { u.bus with interval := none, window := none, quietCount := 0 } } : State).post
          (.ownership after .releasing b.number .releaseDone false)
      (s.change = none → NoClearing s ∨ s.resetUnit.period ≠ none →
        exec .controllerBoundary s = .next (ended went))
      ∧ ∀ c, s.change = some c → NoClearing s →
        exec .controllerBoundary s = .next (ended ((went.withCommit b c false).withRestores c)))

/-- R98: when the grace runs out every required tile without an acknowledgement becomes OUT, with its held tags and its
TILE_OUT, in ascending address; and the change commits as if those tiles were not required of it. FORCED_COMMIT is the
boundary at which this happens, and runs its whole handling (log 12). -/
def Obligations.GraceForcesTheCommit : Prop :=
  ∀ (s : State) (b : Boundary) (due : List Boundary) (c : Change),
    s.bus.controllerDue = b :: due → NoClearing s → Marks s → s.bus.link = .active →
    s.change = some c → (∃ a ∈ c.required, a ≤ 16 ∧ 1 ≤ a ∧ a ∉ c.acked) →
    c.whole = true → s.params.graceSweeps ≤ c.markCount + 1 →
    let failed := ((List.range 16).map (fun k => k + 1)).filter (fun a => a ∈ c.required ∧ a ∉ c.acked)
    let newTag := fun (a : Nat) => (s.screenOf a).bind (fun i =>
      (c.entries.find? (fun e => e.screen == i)).bind (fun e =>
        match e.instr with | .swap tag => some tag | _ => none))
    let liveTag := fun (a : Nat) => match s.screenOf a with
      | some i => (s.screens.get i).liveTag
      | none => 0
    let out : State := { s with bus := { s.bus with tiles := s.bus.tiles.map (fun t =>
      if t.address ∈ failed then
        { t with state := .out, heldTags := (([liveTag t.address] ++ (newTag t.address).toList
            ++ t.lastTag.toList).filter (fun n => n ≠ 0)).dedup }
      else t) } }
    let told := failed.foldl (fun u a => u.post (.tileOut a (s.screenOf a) b.number .noAck)) out
    ∃ t, exec .forcedCommit s = .next t ∧ exec .controllerBoundary s = .next t
      ∧ exec .controllerBoundary { told with change := some { c with required := c.required.filter (· ∈ c.acked) } }
        = .next t

/-- R116 to R118: with the test holding for the QUIET_DELAY-th boundary in a row the link becomes QUIET, with LINK_STATE
and the quiet-entry mark, and a running survey is aborted (R161). A QUIET link with no change in flight sends a mark
when 16 boundaries have passed since the last, and none before; a change that gives no SWAP commits at the next mark
(R111); one that gives SWAP wakes the link with a mark that carries the wake flag. In WAKING the mark carries the wake
flag, and a change that gives SWAP is not tested. At the second boundary after the wake mark the link becomes ACTIVE,
and a change is tested there without its count rising. QUIET_ENTRY, REFRESH_MARK and WAKE_DONE are those boundaries and
do nothing before (log 12); a mark's reading is log 3's; LINK_STATE comes before SURVEY_DONE (log 27), and a survey
poll's reply window goes with the survey (log 43). A superseded SWAP change wakes nothing (log 53), and no quiet test is
made where WAKING becomes ACTIVE (log 33). -/
def Obligations.TheLinkRestsAndWakes : Prop :=
  (∀ (s : State) (b : Boundary) (due : List Boundary),
    s.bus.controllerDue = b :: due → NoClearing s → s.own.state = .driving → s.bus.link = .active →
    (CouldRest s → s.params.quietDelay ≤ s.bus.quietCount + 1 →
      let quiet : State := ({ s with bus := { s.bus with controllerDue := due, quietCount := 0, link := .quiet } }).post
        (.linkState .quiet .active b.number .idleScreens)
      exec .controllerBoundary s = exec .quietEntry s
      ∧ (s.survey.running = false → exec .quietEntry s = .next (quiet.withMark b true false false false))
      ∧ (s.survey.running = true → exec .quietEntry s = .next ((({ quiet with
          survey := { s.survey with running := false }
          bus := { quiet.bus with window := s.bus.window.filter (fun w => decide (w.frame ≠ SlotFrame.surveyPoll)) }
        }).post (.surveyDone (s.surveyReport (some .linkQuiet)))).withMark b true false false false)))
    ∧ (¬ CouldRest s ∨ s.bus.quietCount + 1 < s.params.quietDelay → exec .quietEntry s = .next s))
  ∧ (∀ (s : State) (b : Boundary) (due : List Boundary),
    s.bus.controllerDue = b :: due → NoClearing s → Marks s → s.bus.link = .quiet →
    let went := s.withControllerDue due
    (s.change = none → 16 ≤ s.bus.sinceMark + 1 →
      exec .controllerBoundary s = .next (went.withMark b true false false false)
      ∧ exec .refreshMark s = .next (went.withMark b true false false false))
    ∧ (s.change = none → s.bus.sinceMark + 1 < 16 →
      exec .refreshMark s = .next s
      ∧ exec .controllerBoundary s = .next { s with bus := { s.bus with
          controllerDue := due, sinceMark := s.bus.sinceMark + 1, interval := none } })
    ∧ (s.change ≠ none → ¬ GivesSwap s →
      exec .controllerBoundary s = .next (went.withTestedMark b true false false false)
      ∧ exec .refreshMark s = .next s)
    ∧ (GivesSwap s →
      exec .controllerBoundary s = .next (
        (({ s with bus := { s.bus with controllerDue := due, link := .waking, sinceWake := 0 } }).post
          (.linkState .waking .quiet b.number .wake)).withMark b false true false false)))
  ∧ ∀ (s : State) (b : Boundary) (due : List Boundary),
    s.bus.controllerDue = b :: due → NoClearing s → Marks s → s.bus.link = .waking →
    (s.bus.sinceWake + 1 < 2 →
      let went : State := { s with bus := { s.bus with controllerDue := due, sinceWake := s.bus.sinceWake + 1 } }
      exec .wakeDone s = .next s
      ∧ (GivesSwap s → exec .controllerBoundary s = .next (went.withMark b false true false false))
      ∧ (¬ GivesSwap s → exec .controllerBoundary s = .next (went.withTestedMark b false true false false)))
    ∧ (2 ≤ s.bus.sinceWake + 1 →
      let woken := (({ s with bus := { s.bus with controllerDue := due, link := .active } }).post
        (.linkState .active .waking b.number .wakeDone)).withTestedMark b false false false true
      exec .controllerBoundary s = .next woken ∧ exec .wakeDone s = .next woken)

/-- R91 to R93, R104, R105 and R158: a slot that is due goes to the first required tile of the change still to be sent
its first attempt, in the order of the entries and of the tile list, when all its slots fit before the interval's end
and before the slot kept for a poll; with no first attempt left, to the first tile whose first attempt went
unacknowledged, as its retry; with no retry left, to the repair frame of the first tile due one (again, when the live
tag is no longer the one it acknowledged: log 73). A reply window opens 10 µs after the frame's last byte and closes
with the frame's last slot. While a tile is OUT or a survey runs, the last slot carries no content: it carries the poll
of the survey's next address, when the survey polls in this interval and no tile is OUT or the turn is the survey's;
else that of the first OUT tile at or after the poll position. A slot with nothing to send stays silent. A slot begins
while the show clock has reached its time (log 2). The survey polls in the intervals that began while it ran; the last
slot of the interval in which SURVEY is taken goes to an OUT tile, and stays silent when there is none (log 58). That of
the interval in which a survey is aborted goes to the OUT tiles at once (log 59). -/
def Obligations.SlotsCarryFramesAndPolls : Prop :=
  ∀ (s : State) (iv : Interval),
    s.bus.interval = some iv → iv.carries = true → s.resetUnit.period = none →
    (s.own.state = .driving ∨ s.own.state = .releasing) → s.bus.window = none → iv.busy ≤ iv.next →
    1000 + 600 * iv.next ≤ (s.showClock - iv.start).toNat →
    let start := iv.start + BitVec.ofNat 32 (1000 + 600 * iv.next)
    let frameSent := fun (frame : SlotFrame) (out : BusFrame) (tile tag slots : Nat) (now : Interval) =>
      ({ s with bus := { s.bus with
        busOut := some out
        interval := some { now with next := iv.next + 1, busy := iv.next + slots }
        window := some
          { frame := frame, sweep := iv.sweep, tile := tile, tag := tag
            opens := start + BitVec.ofNat 32 (5 * out.bytes.length + 10)
            closes := start + BitVec.ofNat 32 (600 * slots), answered := false } } } : State)
    let fits := fun (slots : Nat) => 0 < slots ∧ iv.next + slots ≤ iv.slots
      ∧ (s.survey.running = true ∨ (∃ a, s.isOut a = true) → iv.next + slots + 1 ≤ iv.slots)
    let tried := fun (c : Change) (a : Nat) => a ∉ c.required ∨ a ∈ c.acked ∨ a ∈ iv.attempted
    let retries := fun (c : Change) (a : Nat) =>
      a ∈ c.required ∧ a ∉ c.acked ∧ a ∈ iv.failed ∧ a ∉ iv.retried
    let noAttempt := ∀ c ∈ s.change, ∀ e ∈ c.entries, ∀ tag, e.instr = .swap tag → ∀ g ∈ e.segments, tried c g.tile
    let noRetry := ∀ c ∈ s.change, ∀ e ∈ c.entries, ∀ tag, e.instr = .swap tag → ∀ g ∈ e.segments, ¬ retries c g.tile
    let mends := fun (t : Tile) (i : Fin 4) (g : Segment) =>
      t.state = .inService ∧ t.repairDue = true ∧ t.address ∉ iv.repaired ∧ s.screenOf t.address = some i
        ∧ (∀ c ∈ s.change, ∀ e ∈ c.entries, e.screen ≠ i) ∧ (s.screens.get i).liveTag ≠ 0
        ∧ t.repairTag ≠ some (s.screens.get i).liveTag
        ∧ (s.screens.get i).kept.find? (fun x => x.tile == t.address) = some g
    (∀ (c : Change) (before after : List Entry) (e : Entry) (tag : Nat) (sent left : List Segment) (seg : Segment)
      (u : ScreenSetup),
      s.change = some c → c.entries = before ++ e :: after → e.instr = .swap tag →
      e.segments = sent ++ seg :: left → (s.screens.get e.screen).setup = some u → fits ((u.cpt + 15) / 16) →
      let frame : BusFrame := .content seg.tile tag u.cpt seg.codes
      ((∀ d ∈ before, ∀ t, d.instr = .swap t → ∀ g ∈ d.segments, tried c g.tile) → (∀ g ∈ sent, tried c g.tile) →
        seg.tile ∈ c.required → seg.tile ∉ c.acked → seg.tile ∉ iv.attempted →
        exec .slotStart s = .next (frameSent .first frame seg.tile tag ((u.cpt + 15) / 16)
          { iv with attempted := iv.attempted ++ [seg.tile] }))
      ∧ (noAttempt → (∀ d ∈ before, ∀ t, d.instr = .swap t → ∀ g ∈ d.segments, ¬ retries c g.tile) →
        (∀ g ∈ sent, ¬ retries c g.tile) → retries c seg.tile →
        exec .slotStart s = .next (frameSent .retry frame seg.tile tag ((u.cpt + 15) / 16)
          { iv with retried := iv.retried ++ [seg.tile] })))
    ∧ (noAttempt → noRetry → ∀ (before after : List Tile) (t : Tile) (i : Fin 4) (g : Segment) (u : ScreenSetup),
      s.bus.tiles = before ++ t :: after → (∀ x ∈ before, ∀ j h, ¬ mends x j h) → mends t i g →
      (s.screens.get i).setup = some u → fits ((u.cpt + 15) / 16) →
      exec .slotStart s = .next (frameSent .repair (.content g.tile (s.screens.get i).liveTag u.cpt g.codes) g.tile
        (s.screens.get i).liveTag ((u.cpt + 15) / 16) { iv with repaired := iv.repaired ++ [g.tile] }))
    ∧ (let silent : State := { s with bus := { s.bus with interval := some { iv with next := iv.next + 1 } } }
      (noAttempt → noRetry → (∀ t ∈ s.bus.tiles, ∀ i g, ¬ mends t i g) →
        iv.next + 1 < iv.slots ∨ (iv.next + 1 = iv.slots ∧ (∀ a, s.isOut a = false) ∧ s.survey.running = false) →
        exec .slotStart s = .next silent)
      ∧ (iv.next + 1 = iv.slots → s.survey.running = true → iv.surveyed = false ∨ 16 < s.survey.nextAddress →
        (∀ a, s.isOut a = false) →
        exec .slotStart s = .next silent))
    ∧ (iv.next + 1 = iv.slots → s.survey.running = true → iv.surveyed = true → s.survey.nextAddress ≤ 16 →
      (∀ a, s.isOut a = false) ∨ s.survey.turn = .survey →
      let polled := frameSent .surveyPoll (.poll s.survey.nextAddress) s.survey.nextAddress 0 1 iv
      exec .slotStart s = .next { polled with
        survey := { s.survey with nextAddress := s.survey.nextAddress + 1, turn := .out } })
    ∧ ∀ a, iv.next + 1 = iv.slots → s.survey.running = false ∨ iv.surveyed = false ∨ 16 < s.survey.nextAddress
        ∨ s.survey.turn = .out →
      s.bus.tiles.map (fun t => t.address) = (List.range 16).map (fun k => k + 1) →
      s.isOut a = true → 1 ≤ s.bus.pollPosition → s.bus.pollPosition ≤ 16 →
      (∀ x, s.isOut x = true → (a + 16 - s.bus.pollPosition) % 16 ≤ (x + 16 - s.bus.pollPosition) % 16) →
      let polled := frameSent .outPoll (.poll a) a 0 1 iv
      exec .slotStart s = .next { polled with
        survey := { s.survey with turn := .survey }
        bus := { polled.bus with pollPosition := if a = 16 then 1 else a + 1 } }

/-- R93, R103 and R105: an answer in the open reply window of a content frame or a repair frame, from the tile it
addressed and naming its tag, is taken; any other changes nothing: one outside a reply window, one that is no
acknowledgement with a good check, one in a poll's window, and one from another tile or of another tag. A window is open
while the part drives outside a reset period, the frame has had no answer, and the show clock lies from the window's
opening to its close. An acknowledged repair frame also makes an UNKNOWN tile IN, and sets the tile's last acknowledged
tag (log 17). -/
def Obligations.AcknowledgementsAreTaken : Prop :=
  (∀ (s : State) (w : Window) (frame : List Byte) (tile tag : Nat),
    s.openWindow = some w → parseAck frame = some (tile, tag) →
    (tile ≠ w.tile ∨ tag ≠ w.tag → exec (.ack frame) s = .next s)
    ∧ (tile = w.tile → tag = w.tag → w.frame = .first ∨ w.frame = .retry ∨ w.frame = .repair →
      exec (.ack frame) s = .next { s with
        change := if w.frame = .repair then s.change
          else s.change.map (fun c => { c with acked := c.acked ++ [tile] })
        bus := { s.bus with
          window := some { w with answered := true }
          tiles := s.bus.tiles.map (fun t =>
            if t.address = tile then
              { t with
                lastTag := some tag, state := if t.state = .unknown then .inService else t.state
                repairDue := if w.frame = .repair then t.repairDue else false
                repairTag := if w.frame = .repair then some tag else none }
            else t) } }))
  ∧ (∀ (s : State) (frame : List Byte),
    s.openWindow = none ∨ parseAck frame = none
      ∨ (∃ w, s.openWindow = some w ∧ (w.frame = .outPoll ∨ w.frame = .surveyPoll)) →
    exec (.ack frame) s = .next s)
  ∧ ∀ (s : State) (w : Window),
    s.openWindow = some w ↔
      s.bus.window = some w ∧ (s.own.state = .driving ∨ s.own.state = .releasing)
        ∧ s.resetUnit.period = none ∧ w.answered = false
        ∧ (s.showClock - w.opens).toNat < 2 ^ 31 ∧ (w.closes - s.showClock).toNat < 2 ^ 31

/-- R93, R104, R159, R160 and R181: an answer to a poll from the tile polled makes an OUT tile IN and due a repair, with
TILE_IN; for a survey's poll it also records the tile as present with its capacity. An answer outside a reply window,
without the form or the check of a poll answer, in a content frame's window or from another tile changes nothing. A
reply window that closes leaves a first attempt without an answer unacknowledged in its interval; an unanswered survey
poll finds its address absent; and with the 16th poll's window the survey ends with SURVEY_DONE. -/
def Obligations.PollAnswersAndClosingWindows : Prop :=
  (∀ (s : State) (w : Window) (frame : List Byte) (a : PollAnswer),
    s.openWindow = some w → parsePollReply frame = some a → a.tile = w.tile →
    w.frame = .outPoll ∨ w.frame = .surveyPoll →
    let returns := fun (t : Tile) => decide (t.address = w.tile ∧ t.state = .out)
    let seen := fun (t : Tile) => decide (t.address = w.tile ∧ w.frame = .surveyPoll)
    let answered : State := { s with
      survey := if w.frame = .surveyPoll then
          { s.survey with found := s.survey.found.set (w.tile - 1) (.answered a.capacity a.status) }
        else s.survey
      bus := { s.bus with
        window := some { w with answered := true }
        tiles := s.bus.tiles.map (fun t =>
          let t1 := if seen t then { t with presence := .present, capacity := some a.capacity } else t
          if s.isOut w.tile ∧ t.address = w.tile then
            { t1 with state := .inService, repairDue := true, repairTag := none }
          else t1) } }
    exec (.pollReply frame) s = .next (
      if s.bus.tiles.any returns then
        answered.post (.tileIn w.tile (s.screenOf w.tile) w.sweep a.liveTag a.pendingTag)
      else answered))
  ∧ (∀ (s : State) (frame : List Byte),
    s.openWindow = none ∨ parsePollReply frame = none
      ∨ (∃ w, s.openWindow = some w ∧ (w.frame = .first ∨ w.frame = .retry ∨ w.frame = .repair
        ∨ ∃ a, parsePollReply frame = some a ∧ a.tile ≠ w.tile)) →
    exec (.pollReply frame) s = .next s)
  ∧ ∀ (s : State) (w : Window),
    s.bus.window = some w → s.resetUnit.period = none → (s.showClock - w.closes).toNat < 2 ^ 31 →
    let closed : State := { s with bus := { s.bus with window := none } }
    (w.frame = .retry ∨ w.frame = .repair ∨ w.frame = .outPoll ∨ (w.frame = .first ∧ w.answered = true) →
      exec .replyWindowClose s = .next closed)
    ∧ (w.frame = .first → w.answered = false →
      exec .replyWindowClose s = .next { closed with bus := { closed.bus with
        interval := s.bus.interval.map (fun iv =>
          if iv.sweep = w.sweep then { iv with failed := iv.failed ++ [w.tile] } else iv) } })
    ∧ (w.frame = .surveyPoll →
      let heard : State := if w.answered = true then closed else { closed with
        survey := { s.survey with found := s.survey.found.set (w.tile - 1) .unanswered }
        bus := { closed.bus with tiles := s.bus.tiles.map (fun t =>
          if t.address = w.tile then { t with presence := .absent, capacity := none } else t) } }
      (s.survey.nextAddress ≤ 16 ∨ s.survey.running = false → exec .replyWindowClose s = .next heard)
      ∧ (16 < s.survey.nextAddress → s.survey.running = true →
        exec .replyWindowClose s = .next (
          ({ heard with survey := { heard.survey with running := false } }).post
            (.surveyDone (heard.surveyReport none)))))


/-! ### Blackout and lift (04, 06) -/

/-- R110 with R80: BLACKOUT while the flag is on changes nothing; else it sets the flag and, when a change is in flight
or an enabled screen is not DARK, hands over a blackout change that gives every enabled screen BLANK, takes over the
firing, sources and overrides of the change it supersedes with the edits not under group hold, and stops its content
frame. R113: LIFT is refused while the flag is off; else it clears the flag and the composer takes a restore of all
screens. The change names no initial blank (log 34), keeps the superseded firing's clipped and missing lanes (log 63),
and leaves restores, reissues and initial blanks that wait waiting (log 64); the stopped frame's reply window closes and
its slots still to come are free (log 40), and a repair frame under way goes on (log 66). -/
def Obligations.BlackoutAndLift : Prop :=
  ∀ (s : State) (rest : List Record),
    let went := s.withRequests rest
    let dark : Shown := { source := .dark, found := false }
    let enabled := fourNumbers.filter (fun i => (s.screens.get i).setup.isSome)
    let carried : List Take := match s.change with | some c => c.takes | none => []
    let transfer : Bool := match s.bus.window with
      | some w => decide (w.frame = SlotFrame.first ∨ w.frame = SlotFrame.retry)
      | none => false
    let change : Change :=
      { firing := s.change.bind (fun c => c.firing)
        takes := enabled.map (fun i =>
          let old := s.screens.get i
          let base : Take := (carried.find? (fun t => t.screen == i)).getD
            { screen := i, cueSource := old.cueSource, override := old.override }
          { screen := i, cueSource := base.cueSource
            override := match old.edit with
              | some (.set p) => if s.groupHold then base.override else some p
              | some .clear => if s.groupHold then base.override else none
              | none => base.override })
        entries := enabled.map (fun i => { screen := i, shown := dark, instr := .blank, segments := [] })
        clipped := match s.change with | some c => c.clipped | none => []
        missing := match s.change with | some c => c.missing | none => []
        blackout := true, builtDark := true, initialBlanks := [], required := [], acked := [], markCount := 0
        whole := match s.bus.interval with
          | some iv => decide ((s.showClock - iv.start).toNat < 1000)
          | none => false }
    let darkened : State := { went with
      sched := { s.sched with blackout := true }
      screens := s.screens.mapIdx (fun _ c => { c with
        edit := if s.groupHold then c.edit else none
        pendingShown := if c.setup.isSome then some dark else none })
      change := some change
      bus := { s.bus with
        window := if transfer then none else s.bus.window
        interval := s.bus.interval.map (fun iv => { iv with
          attempted := [], failed := [], retried := []
          busy := if transfer then min iv.busy iv.next else iv.busy }) } }
    (Waiting s kBlackout [] rest →
      (s.sched.blackout = true →
        exec .blackout s = .next (went.withReply kBlackout .ok (.dark .alreadyDark)))
      ∧ (s.sched.blackout = false → s.change = none → (∀ i ∈ enabled, (s.screens.get i).live.source = .dark) →
        exec .blackout s = .next (({ went with sched := { s.sched with blackout := true } }).withReply kBlackout .ok
          (.dark (.darkened none))))
      ∧ (s.sched.blackout = false →
        (s.change ≠ none ∨ ∃ i ∈ enabled, (s.screens.get i).live.source ≠ .dark) →
        exec .blackout s = .next (darkened.withReply kBlackout .ok
          (.dark (.darkened (s.change.map (fun c => c.firing.map (fun f => f.cue))))))))
    ∧ (Waiting s kLift [] rest →
      exec .lift s = .next (
        if s.sched.blackout = true then
          (({ went with
              sched := { s.sched with blackout := false }
              screens := s.screens.mapIdx (fun _ c => { c with restore := true }) }).composeWork).withReply kLift .ok
            (.lifted s.change.isNone)
        else went.withReply kLift .refusedState .empty))

/-! ### The control port (10) -/

/-- R162, R163, R165 and R167: the bytes of a record (11, section 11.3) taken in HUNT outside a reset period put it into
the request queue; with four queued it is answered FULL, and with four FULL answers waiting it is discarded with the
line-error flag. A length out of range, a check that is not the one computed, a byte without its stop bit, and 2 ms
without a byte drop the record with the flag. In a reset period bytes are discarded. READY is high while at most two
records wait outside a reset period (R166). The bytes of one command share one reading of the show clock (log 7); a gap
expiry that is not due does nothing (log 2); a drop leaves 0 as the time of the last byte (log 51). -/
def Obligations.RecordsAreReceived : Prop :=
  ∀ (s : State),
    let stopped := fun (bs : List Byte) => bs.map (fun b => ({ byte := b, stopBit := true } : LineByte))
    let hunting : CtlReceiver := { phase := .hunt, length := 0, bytes := [], lastByte := s.showClock }
    let flagged : Sticky := { set := true, reported := false }
    (s.ready = true ↔ s.port.requests.length ≤ 2 ∧ s.resetUnit.period = none)
    ∧ (∀ bytes, s.resetUnit.period ≠ none → exec (.controlRecordReceive bytes) s = .next s)
    ∧ (s.resetUnit.period = none → s.port.receiver.phase = .hunt →
      (∀ (kind : Byte) (body : List Byte), body.length ≤ 1000 →
        exec (.controlRecordReceive (stopped (recordBytes kind body))) s = .next { s with port :=
          if s.port.requests.length < 4 then
            { s.port with receiver := hunting, requests := s.port.requests ++ [{ kind := kind, body := body }] }
          else if (s.port.replies.filter (fun r => !r.taken)).length < 4 then
            { s.port with receiver := hunting, replies := s.port.replies ++
              [{ kind := kind ||| 0x80, taken := false, status := .full, body := .empty }] }
          else { s.port with receiver := hunting, lineError := flagged } })
      ∧ (∀ (kind hi lo : Byte) (body : List Byte), body.length ≤ 1000 →
        let covered := be16 (body.length + 1) ++ kind :: body
        [hi, lo] ≠ checkBytes (crc covered) →
        exec (.controlRecordReceive (stopped (0xC3 :: covered ++ [hi, lo]))) s = .next { s with port :=
          { s.port with receiver := hunting, lineError := flagged } })
      ∧ (∀ hi lo : Byte, hi.toNat * 256 + lo.toNat = 0 ∨ 1001 < hi.toNat * 256 + lo.toNat →
        exec (.controlRecordReceive (stopped [0xC3, hi, lo])) s = .next { s with port :=
          { s.port with receiver := hunting, lineError := flagged } })
      ∧ (∀ b : Byte, b ≠ 0xC3 →
        exec (.controlRecordReceive (stopped [b])) s = .next { s with port :=
          { s.port with receiver := { s.port.receiver with lastByte := s.showClock } } }))
    ∧ (s.resetUnit.period = none → ∀ b : Byte,
      exec (.controlRecordReceive [{ byte := b, stopBit := false }]) s = .next { s with port :=
        { s.port with receiver := { hunting with lastByte := 0 }, lineError := flagged } })
    ∧ (s.resetUnit.period = none → s.port.receiver.phase ≠ .hunt →
      2000 < (s.showClock - s.port.receiver.lastByte).toNat →
      exec .ctlByteGapExpiry s = .next { s with port :=
        { s.port with receiver := { hunting with lastByte := 0 }, lineError := flagged } })
    ∧ (s.resetUnit.period ≠ none ∨ s.port.receiver.phase = .hunt
        ∨ (s.showClock - s.port.receiver.lastByte).toNat ≤ 2000 →
      exec .ctlByteGapExpiry s = .next s)

/-- R168 to R171: the free transmitter starts the head reply, with the status word and the flags marked as reported,
else the oldest notice; the end of a reply clears the flags still marked (the end of a RESTART's reply: ShowSafeResets).
The status word has the fields of 11, section 11.3. A POSITION notice takes the place of the queued one; with fewer than
32 notices a notice joins at the tail; a full queue gives up its POSITION, else its oldest notice with the
notices-dropped flag. In a reset period a notice is discarded. A TRANSMIT_START that is not due (a record in
transmission, nothing waiting, a reset period) changes nothing (log 2). The status word's quiet bit is that of R48
(ReadinessOfEachKind). -/
def Obligations.RepliesAndNoticesAreSent : Prop :=
  (∀ (s : State),
    (s.resetUnit.period ≠ none ∨ s.port.sending ≠ none → exec .transmitStart s = .next s)
    ∧ (s.resetUnit.period = none → s.port.sending = none →
      (∀ r later, s.port.replies = r :: later →
        exec .transmitStart s = .next { s with port := { s.port with
          replies := later, sending := some (.reply r s.statusWord)
          lineError := { s.port.lineError with reported := s.port.lineError.set }
          noticesDropped := { s.port.noticesDropped with reported := s.port.noticesDropped.set }
          showError := { s.port.showError with reported := s.port.showError.set } } })
      ∧ (∀ n later, s.port.replies = [] → s.port.notices = n :: later →
        exec .transmitStart s = .next { s with port := { s.port with
          notices := later, sending := some (.notice n) } })
      ∧ (s.port.replies = [] → s.port.notices = [] → exec .transmitStart s = .next s))
    ∧ (∀ n, s.port.sending = some (.notice n) →
      exec .transmitEnd s = .next { s with port := { s.port with sending := none } })
    ∧ (∀ r w, s.port.sending = some (.reply r w) →
      ¬ (s.port.restartTaken = true ∧ r.taken = true ∧ r.kind = 0x85 ∧ r.status = .ok) →
      let after := fun (f : Sticky) => if f.reported then ({ set := false, reported := false } : Sticky) else f
      exec .transmitEnd s = .next { s with port := { s.port with
        sending := none, lineError := after s.port.lineError, noticesDropped := after s.port.noticesDropped
        showError := after s.port.showError } })
    ∧ (let w := s.statusWord.toNat
      w / 8192 = trackerCode (s.tracker.modeAt s.showClock) ∧ w / 2048 % 4 = schedCode s.sched.mode
      ∧ w.testBit 10 = s.sched.blackout ∧ w / 256 % 4 = ownerCode s.own.state ∧ w.testBit 7 = s.linkQuiet
      ∧ w.testBit 6 = s.change.isSome ∧ (w.testBit 5 = true ↔ s.port.notices ≠ [])
      ∧ w.testBit 4 = s.port.lineError.set ∧ w.testBit 3 = s.port.noticesDropped.set
      ∧ w.testBit 2 = s.port.showError.set ∧ w.testBit 1 = s.groupHold
      ∧ w.testBit 0 = s.sched.pendingGo.isSome))
  ∧ ∀ (s : State) (n : Notice),
    let queue := s.port.notices
    (s.resetUnit.period ≠ none → s.post n = s)
    ∧ (s.resetUnit.period = none →
      (∀ before m after, queue = before ++ m :: after → m.isPosition = true →
        (∀ x ∈ before ++ after, x.isPosition = false) →
        (n.isPosition = true → s.post n = s.withNotices (before ++ n :: after))
        ∧ (n.isPosition = false → queue.length < 32 → s.post n = s.withNotices (queue ++ [n]))
        ∧ (n.isPosition = false → 32 ≤ queue.length → s.post n = s.withNotices (before ++ after ++ [n])))
      ∧ ((∀ x ∈ queue, x.isPosition = false) →
        (queue.length < 32 → s.post n = s.withNotices (queue ++ [n]))
        ∧ (32 ≤ queue.length → s.post n = { s with port := { s.port with
            notices := queue.tail ++ [n], noticesDropped := { set := true, reported := false } } })))

/-- R164, R165, R172, R173, R177 and R181: IDENTIFY and STATUS give their reports and change nothing else; RESTART lets
no further request be taken; a kind that names no request, or has its top bit set, is answered UNKNOWN_KIND; a request
with no argument and a body, or a cue or page record without its form, is answered BAD_ARGUMENT; and no request is taken
in a reset period, after a RESTART, while the reply path holds a taken request's reply, or when the head of the queue is
another kind (log 2). STATUS counts the requests without its own record (log 26); without a live cue it gives neither
number, commit sweep nor trigger (R173). Its sweep number is the sweep timer's (log 62). -/
def Obligations.RequestsAreTakenAndAnswered : Prop :=
  ∀ (s : State) (rest : List Record),
    let went := s.withRequests rest
    (Waiting s 0x01 [] rest → exec .identify s = .next (went.withReply 0x01 .ok (.identify
      { vendor := 0x2E61, partName := "PT-460", revision := 3, rate := s.port.rate, cues := 2048, pages := 4095
        glyphs := 262144, meterEntries := 128, screens := 4, tiles := 16, lanes := 4, slots := 4, history := 8
        requestQueue := 4, noticeQueue := 32, grainsPerBeat := 192
        limits := [.range 10 40, .codes 3, .members [1, 2, 3, 4, 6, 8], .range 1 16, .range 2 8, .range 0 3000
          , .range 0 10000, .range 0 100, .range 1 8, .codes 2, .range 0 250, .codes 2, .codes 2, .codes 2
          , .range 1 50, .codes 2, .range 0 16, .range 50 90] })))
    ∧ (Waiting s 0x02 [] rest → exec .status s = .next (went.withReply 0x02 .ok (.status
      { trackerMode := s.tracker.modeAt s.showClock
        position := fullPos s.meter (s.positionAt s.showClock), tempo := tempoOf s.tracker.period
        schedMode := s.sched.mode
        live := if s.sched.live.cue = none then { cue := none, sweep := 0, trigger := none } else s.sched.live
        next := s.sched.next
        history := s.sched.history.length, blackout := s.sched.blackout, owner := s.own.state
        peerNumber := s.mirror.number, peerLink := s.mirror.link, mirrorCurrent := s.mirror.current
        link := if s.own.state = .driving ∨ s.own.state = .releasing then some s.bus.link else none
        peerQuiet := decide (s.mirror.link = .quiet ∨ s.mirror.link = .waking), sweep := s.bus.sweepNumber
        inFlight := s.change.isSome
        tiles := s.bus.tiles.map (fun t =>
          { screen := s.screenOf t.address, state := t.state, presence := t.presence, capacity := t.capacity })
        cues := s.cues.length, meterEntries := s.meter.length, pages := s.pages.length
        glyphs := (s.pages.map (fun p => (p.lines.map List.length).sum)).sum
        requests := rest.length, notices := s.port.notices.length, resetCause := s.resetUnit.cause
        resetShowSafe := s.resetUnit.showSafe, lineTest := s.lineTest.last })))
    ∧ (Waiting s 0x05 [] rest → exec .restart s =
      .next (({ went with port := { went.port with restartTaken := true } }).withReply 0x05 .ok .empty))
    ∧ (∀ kind body, Waiting s kind body rest →
      (128 ≤ kind.toNat ∨ kind ∉ requestCodes →
        exec .unknownKind s = .next (went.withReply kind .unknownKind .empty))
      ∧ (kind ∈ requestCodes → exec .unknownKind s = .next s)
      ∧ (∀ c k echo, c ∈ bareRequests echo → requestKind c = some k → kind = k → body ≠ [] →
        exec c s = .next (went.withReply kind .badArgument .empty))
      ∧ (∀ c, kind = 0x18 → parseCue body = none →
        exec (.loadCue c) s = .next (went.withReply kind .badArgument .empty))
      ∧ (∀ p, kind = 0x28 → parsePage body = none →
        exec (.loadPage p) s = .next (went.withReply kind .badArgument .empty)))
    ∧ (∀ c k, requestKind c = some k →
      s.resetUnit.period ≠ none ∨ s.port.restartTaken = true ∨ (∃ r ∈ s.port.replies, r.taken = true)
        ∨ (∀ r ∈ s.port.requests.head?, r.kind ≠ k) → exec c s = .next s)

/-- R174 and R175: SET_PARAM takes a value for each of the 18 parameters, a numeric one brought into its range, and
PULSES_PER_BEAT down to a member and pending when it differs from the one in effect (R15); BUS_REQUEST acts on the line
at once (R121). GET_PARAM gives the value set. Ids outside 1 to 18, and codes that are none of an enumerated
parameter's, are refused. A loss of the beat that a new LOSS_BEATS makes due is left to LOSS_EXPIRY (log 44). -/
def Obligations.ParametersAreSetAndRead : Prop :=
  ∀ (s : State) (id v : Nat) (body : List Byte) (rest : List Record),
    let went := s.withRequests rest
    let p := s.params
    let tr := s.tracker
    (Waiting s 0x03 body rest →
      let refused := went.withReply 0x03 .badArgument .empty
      let numeric := fun (put : Params → Nat → Params) (least greatest : Nat) =>
        let used := max least (min v greatest)
        Host.Outcome.next (φ := Fault) (ρ := Refusal) (({ went with params := put p used }).withReply 0x03
          (if used = v then .ok else .adjusted) (.param id used none))
      let coded := fun (put : Params → Nat → Params) (codes : Nat) =>
        Host.Outcome.next (φ := Fault) (ρ := Refusal) (if v < codes then
          ({ went with params := put p v }).withReply 0x03 .ok (.param id v none) else refused)
      (id < 1 ∨ 18 < id → exec (.setParam id v) s = .next refused)
      ∧ (id = 1 → exec (.setParam id v) s = numeric (fun q n => { q with sweepPeriod := n }) 10 40)
      ∧ (id = 2 → exec (.setParam id v) s = coded (fun q n => { q with
          beatSource := if n = 0 then .line else if n = 1 then .tap else .both }) 3)
      ∧ (id = 3 →
        let used := if v = 0 then 1 else if v = 5 then 4 else if v = 7 then 6 else min v 8
        exec (.setParam id v) s = .next (
          ({ went with tracker := { tr with
              pendingPpb := if used = tr.ppb then none else some used } }).withReply 0x03
            (if used = v then .ok else .adjusted) (.param id used (some (tr.ppb, decide (used ≠ tr.ppb))))))
      ∧ (id = 4 → exec (.setParam id v) s = numeric (fun q n => { q with followGain := n }) 1 16)
      ∧ (id = 5 → exec (.setParam id v) s = numeric (fun q n => { q with lossBeats := n }) 2 8)
      ∧ (id = 6 → exec (.setParam id v) s = numeric (fun q n => { q with defaultLead := n }) 0 3000)
      ∧ (id = 7 → exec (.setParam id v) s = numeric (fun q n => { q with defaultDwell := n }) 0 10000)
      ∧ (id = 8 → exec (.setParam id v) s = numeric (fun q n => { q with tileLatency := n }) 0 100)
      ∧ (id = 9 → exec (.setParam id v) s = numeric (fun q n => { q with graceSweeps := n }) 1 8)
      ∧ (id = 10 → exec (.setParam id v) s = coded (fun q n => { q with
          partialPolicy := if n = 0 then .showTorn else .blankScreen }) 2)
      ∧ (id = 11 → exec (.setParam id v) s = numeric (fun q n => { q with quietDelay := n }) 0 250)
      ∧ (id = 12 → exec (.setParam id v) s = .next (if v < 2 then
          ({ went with
              params := { p with busRequest := decide (v = 1) }
              own := { s.own with request := decide (v = 1) } }).withReply 0x03 .ok (.param id v none)
        else refused))
      ∧ (id = 13 → exec (.setParam id v) s = coded (fun q n => { q with busHold := decide (n = 1) }) 2)
      ∧ (id = 14 → exec (.setParam id v) s = coded (fun q n => { q with commitHold := decide (n = 1) }) 2)
      ∧ (id = 15 → exec (.setParam id v) s = numeric (fun q n => { q with divergenceSweeps := n }) 1 50)
      ∧ (id = 16 → exec (.setParam id v) s = coded (fun q n => { q with shadowFollow := decide (n = 1) }) 2)
      ∧ (id = 17 → exec (.setParam id v) s = numeric (fun q n => { q with positionReport := n }) 0 16)
      ∧ (id = 18 → exec (.setParam id v) s = numeric (fun q n => { q with velocityFactor := n }) 50 90))
    ∧ (Waiting s 0x04 body rest →
      let code := fun (on : Bool) => if on then 1 else 0
      let values : List Nat :=
        [p.sweepPeriod, (match p.beatSource with | .line => 0 | .tap => 1 | .both => 2), tr.pendingPpb.getD tr.ppb
          , p.followGain, p.lossBeats, p.defaultLead, p.defaultDwell, p.tileLatency, p.graceSweeps
          , (match p.partialPolicy with | .showTorn => 0 | .blankScreen => 1), p.quietDelay, code p.busRequest
          , code p.busHold, code p.commitHold, p.divergenceSweeps, code p.shadowFollow, p.positionReport
          , p.velocityFactor]
      (id < 1 ∨ 18 < id → exec (.getParam id) s = .next (went.withReply 0x04 .badArgument .empty))
      ∧ ∀ x, 1 ≤ id → values[id - 1]? = some x →
        exec (.getParam id) s = .next (went.withReply 0x04 .ok
          (.param id x (if id = 3 then some (tr.ppb, tr.pendingPpb.isSome) else none))))

/-! ### Resets and restart (10, and the reset sections of every chapter) -/

/-- R176, R178 and R179 with R21, R38, R62, R65, R84, R86, R106, R120, R138, R151, R157 and R161: a full reset leaves
everything at its reset value but the input lines, the show clock (a free value at power-on, log 4) and the line's rate,
with the sweep timer, DRIVE and REQUEST down; a full reset in a show-safe period takes its start effects there and makes
the period full. The end of the period starts the timer, reads GRANT and the RATE strap, and posts HELLO; it comes when
every reset begun in the period has ended. Power-on with the lines low leads to `State.reset`. A rise of a RESET line
that is high does nothing (log 2); POWER_ON sets the reset cause at once (log 48), and in a period begins a fresh one
(log 60); the mirror, the survey and the items without a reset value of their own take those of logs 21, 22 and 42;
REQUEST and the lines are log 5's. -/
def Obligations.FullResets : Prop :=
  (∀ s : State,
    let cleared : State := { State.reset with
      pending := s.pending, showClock := s.showClock, freeCount := s.freeCount
      bus := { State.reset.bus with timer := none }
      own := { State.reset.own with request := false, grant := s.own.grant, peerDrive := s.own.peerDrive }
      port := { State.reset.port with notices := [], rate := s.port.rate }
      resetUnit := s.resetUnit }
    exec .powerOn s = .next { cleared with
      showClock := Config.powerOnClock s.freeCount, freeCount := s.freeCount + 1
      resetUnit := { line := s.resetUnit.line, cause := .power, showSafe := false
                     period := some { showSafe := false, cause := .power, power := true
                                      line := s.resetUnit.line, restart := none } } }
    ∧ (s.resetUnit.line = false → s.resetUnit.period = none →
      exec (.resetAssert false) s = .next { cleared with resetUnit := { s.resetUnit with
        line := true
        period := some { showSafe := false, cause := .lineFull, power := false, line := true, restart := none } } })
    ∧ (∀ p, s.resetUnit.line = false → s.resetUnit.period = some p → p.showSafe = true →
      exec (.resetAssert false) s = .next { cleared with resetUnit := { s.resetUnit with
        line := true, period := some { p with showSafe := false, cause := .lineFull, line := true } } })
    ∧ (∀ keep, s.resetUnit.line = true → exec (.resetAssert keep) s = .next s)
    ∧ (∀ p fast, s.resetUnit.period = some p → p.showSafe = false →
      let ended := fun (line : Bool) =>
        ({ s with
          bus := { s.bus with timer := some { start := s.showClock, length := 20000 } }
          own := { s.own with state := if s.own.grant then .granted else .shadow, request := s.params.busRequest }
          resetUnit := { line := line, period := none, cause := p.cause, showSafe := false }
          port := { s.port with rate := if fast then 460800 else 115200 } } : State).post
        (.hello p.cause false 3 (if fast then 460800 else 115200) s.bus.sweepNumber)
      exec (.resetRelease .resetFalls fast) s = .next (
        if p.power = false ∧ p.restart = none then ended false
        else { s with resetUnit := { s.resetUnit with line := false, period := some { p with line := false } } })
      ∧ exec (.resetRelease .supplyReady fast) s = .next (
        if p.line = false ∧ p.restart = none then ended s.resetUnit.line
        else { s with resetUnit := { s.resetUnit with period := some { p with power := false } } })
      ∧ ∀ start, p.restart = some start → (s.showClock - (start + 50000)).toNat < 2 ^ 31 →
        exec (.restartPeriodExpiry fast) s = .next (
          if p.power = false ∧ p.line = false then ended s.resetUnit.line
          else { s with resetUnit := { s.resetUnit with period := some { p with restart := none } } })))
  ∧ ∀ s : State,
    s.resetUnit.line = false → s.own.grant = false → s.own.peerDrive = false →
    ∃ t, exec .powerOn s = .next t
      ∧ exec (.resetRelease .supplyReady false) t = .next { State.reset with
          pending := s.pending, showClock := t.showClock, freeCount := s.freeCount + 1
          bus := { State.reset.bus with timer := some { start := t.showClock, length := 20000 } } }

/-- R176 to R179 with R22, R63, R64, R85, R107, R139, R142, R151, R157 and R161: a show-safe reset begun by RESET with
KEEP high, or by the end of a RESTART's reply, abandons the change in flight, frees the tracker at its reported
position, holds a run at the abandoned cue (else at the cue after the live one, else at the first), and empties the
control port. A commit report still on its way would be taken first (log 9). A show-safe reset begun in a period takes
no start effects. Its end restarts the follow timer and the peer counts, posts HELLO, and has the composer restore all
screens. An expiry that is not due does nothing (log 2); the aborted test carries VELOCITY_FACTOR (log 22) and the sweep
timer's boundary (log 62); the stopped frame's slots still to come are free (log 40); of the boundaries still to be
handled the controller's alone stay (log 67). -/
def Obligations.ShowSafeResets : Prop :=
  ∀ (s : State),
    let step := 192 / s.tracker.ppb
    let tracker : Tracker := match s.positionAt s.showClock with
      | none => { s.tracker with pulseCounter := 0, lossOpen := false }
      | some g =>
        let up := (g + step - 1) / step * step
        { s.tracker with
          confirmed := match endGrain s.meter with | some last => min up last | none => up
          mode := .free, pulseCounter := 0, lossOpen := false }
    let abandoned := (s.change.bind (fun c => c.firing)).map (fun f => f.cue)
    let first : NextPtr := match s.cues.head? with | some c => .cue c.record.number | none => .endOfList
    let otherwise : NextPtr := match s.sched.live.cue with | some n => s.following n | none => first
    let resume : NextPtr := match abandoned with
      | some n => if (s.cue? n).isSome then .cue n else otherwise
      | none => otherwise
    let transfer : Bool := match s.bus.window with
      | some w => decide (w.frame = SlotFrame.first ∨ w.frame = SlotFrame.retry)
      | none => false
    let clear : Sticky := { set := false, reported := false }
    let begun : State := { s with
      tracker := tracker
      sched := { s.sched with
        pendingGo := none, noRise := false, follow := none
        mode := if s.sched.mode = .idle then .idle else .held
        next := if s.sched.mode = .idle then s.sched.next else resume }
      screens := s.screens.mapIdx (fun _ c =>
        { c with pendingShown := none, edit := none, restore := false, reissue := false, initialBlank := false })
      groupHold := false, change := none
      bus := { s.bus with
        window := none, quietCount := 0, schedulerDue := [], ownershipDue := []
        interval := s.bus.interval.map (fun iv => { iv with
          carries := false, busy := if transfer then min iv.busy iv.next else iv.busy }) }
      own := { s.own with heldChange := false }
      listener := {
        receiver := { phase := .hunt, length := 0, bytes := [], lastByte := 0 }
        slots := s.listener.slots.mapIdx (fun _ sl => { sl with latch := false, refractoryEnd := none }) }
      lineTest := { started := none, pulses := 0, reflections := []
                    last := if s.lineTest.started = none then s.lineTest.last else some
                      { outcome := .aborted .reset, reflected := s.lineTest.reflections.length
                        velocityFactor := s.params.velocityFactor, sweep := s.bus.sweepNumber } }
      survey := { s.survey with running := false }
      port := {
        receiver := { phase := .hunt, length := 0, bytes := [], lastByte := 0 }, requests := [], replies := []
        sending := none, notices := [], lineError := clear, noticesDropped := clear, showError := clear
        restartTaken := false, rate := s.port.rate } }
    (s.resetUnit.line = false → s.resetUnit.period = none → s.reports = [] →
      exec (.resetAssert true) s = .next { begun with resetUnit := { s.resetUnit with
        line := true
        period := some { showSafe := true, cause := .lineKeep, power := false, line := true, restart := none } } })
    ∧ (∀ r w, s.port.sending = some (.reply r w) → s.port.restartTaken = true → r.taken = true → r.kind = 0x85 →
      r.status = .ok → s.reports = [] →
      exec .transmitEnd s = .next { begun with resetUnit := { s.resetUnit with
        period := some { showSafe := true, cause := .request, power := false, line := false
                         restart := some s.showClock } } })
    ∧ (∀ p, s.resetUnit.line = false → s.resetUnit.period = some p →
      exec (.resetAssert true) s = .next { s with resetUnit := { s.resetUnit with
        line := true, period := some { p with line := true } } })
    ∧ (∀ p fast, s.resetUnit.period = some p → p.showSafe = true →
      let ended := fun (line : Bool) =>
        (({ s with
          sched := { s.sched with
            follow := if s.sched.mode = SchedMode.held then s.followFor s.sched.next else s.sched.follow }
          own := { s.own with contention := 0, bothDriving := false }
          mirror := { s.mirror with silence := 0, silent := false, divergence := 0, divergenceOpen := false }
          bus := { s.bus with quietCount := 0 }
          screens := s.screens.mapIdx (fun _ c => { c with restore := true })
          resetUnit := { line := line, period := none, cause := p.cause, showSafe := true }
          port := { s.port with rate := if fast then 460800 else 115200 } } : State).post
        (.hello p.cause true 3 (if fast then 460800 else 115200) s.bus.sweepNumber)).composeWork
      (p.power = false → p.restart = none → exec (.resetRelease .resetFalls fast) s = .next (ended false))
      ∧ ∀ start, p.restart = some start →
        ((s.showClock - (start + 50000)).toNat < 2 ^ 31 → p.power = false → p.line = false →
          exec (.restartPeriodExpiry fast) s = .next (ended s.resetUnit.line))
        ∧ (2 ^ 31 ≤ (s.showClock - (start + 50000)).toNat → exec (.restartPeriodExpiry fast) s = .next s))

/-! ### Bus ownership and shadow operation (07) -/

/-- R127 to R129: at a boundary a part in SHADOW counts silence, unless a peer frame made the boundary, and with the
mirror current and no silence tests its enabled screens against the mirror, counts and reports divergence, and offers
the scheduler the peer cue. The expiries of the silence count and of the divergence count are the boundaries at which
the counts reach their limits (log 12); the silence limit follows the last frame's quiet flag (log 19); a silence clears
the divergence counter and leaves the episode open (log 20). With SHADOW_FOLLOW on, nothing is adopted where no enabled
screen disagrees, the peer names no cue, or the cue is not in the list (R61, R129); a commit report on its way declines
an adoption as a change in flight does (log 9). A GO_LAPSED names the sweep timer's boundary (log 62). -/
def Obligations.SilenceAndDivergence : Prop :=
  ∀ (s : State) (b : Boundary) (due : List Boundary),
    s.bus.ownershipDue = b :: due → s.resetUnit.period = none → s.own.state = .shadow →
    let went : State := { s with bus := { s.bus with ownershipDue := due } }
    let n := s.mirror.silence + 1
    let begins := b.byPeer = false ∧ s.mirror.silent = false
      ∧ (if s.mirror.link = LinkState.quiet then 19 else 3) ≤ n
    let heard : State :=
      if begins then
        ({ went with mirror := { s.mirror with silence := n, silent := true, divergence := 0 } }).post (.peerSilent
          (if s.mirror.current then some s.mirror.number else none) n (decide (s.mirror.link = LinkState.quiet)))
      else if b.byPeer then went else { went with mirror := { s.mirror with silence := n } }
    let compares := s.mirror.current = true ∧ s.mirror.silent = false ∧ ¬ begins
    let disagreeing := fourNumbers.filter (fun i => (s.screens.get i).setup.isSome
      && !decide (Agrees (s.screens.get i) (s.mirror.screens.get i)))
    let peerCue := fourNumbers.findSome? (fun i =>
      let e := s.mirror.screens.get i
      if e.kind = SourceKind.cue ∨ e.kind = SourceKind.blank then e.cue else none)
    let count := min (s.mirror.divergence + 1) 255
    let opens := s.params.divergenceSweeps ≤ count ∧ s.mirror.divergenceOpen = false
    let counted : State := { heard with mirror := { heard.mirror with divergence := count } }
    let tested : State :=
      if disagreeing = [] then
        { heard with mirror := { heard.mirror with divergence := 0, divergenceOpen := false } }
      else if opens then
        ({ counted with mirror := { counted.mirror with divergenceOpen := true } }).post
          (.divergence b.number disagreeing s.sched.live.cue peerCue count)
      else counted
    (begins → exec .silenceCountExpiry s = .next heard)
    ∧ (¬ begins → exec .silenceCountExpiry s = .next s)
    ∧ (¬ compares → exec .ownershipBoundary s = .next heard ∧ exec .divergenceCountExpiry s = .next s)
    ∧ (compares → s.params.shadowFollow = false →
      exec .ownershipBoundary s = .next tested
      ∧ (disagreeing ≠ [] → opens → exec .divergenceCountExpiry s = .next tested)
      ∧ (disagreeing = [] ∨ ¬ opens → exec .divergenceCountExpiry s = .next s))
    ∧ (compares → s.params.shadowFollow = true → disagreeing ≠ [] →
      ∀ m c, peerCue = some m → s.cue? m = some c →
      (s.params.divergenceSweeps ≤ count → s.sched.live.cue ≠ some m → ¬ Flying s →
        let fired := tested.fire c .adopt (if s.sched.mode = .idle then s.sched.next else s.following m)
        exec .ownershipBoundary s = .next (
          if s.sched.pendingGo = none then fired
          else ({ fired with sched := { fired.sched with pendingGo := none } }).post
            (.goLapsed .adopt s.bus.sweepNumber)))
      ∧ (count < s.params.divergenceSweeps ∨ s.sched.live.cue = some m ∨ Flying s →
        exec .ownershipBoundary s = .next tested))
    ∧ (compares → s.params.shadowFollow = true →
      (disagreeing = [] ∧ 1 ≤ s.params.divergenceSweeps) ∨ peerCue = none
        ∨ (∃ m, peerCue = some m ∧ s.cue? m = none) →
      exec .ownershipBoundary s = .next tested)
    ∧ (compares → disagreeing ≠ [] → opens → exec .divergenceCountExpiry s = exec .ownershipBoundary s)
    ∧ (compares → disagreeing = [] ∨ ¬ opens → exec .divergenceCountExpiry s = .next s)

/-- R127 and R131 to R134: at a boundary a GRANTED part counts silence, unless a peer frame made the boundary, and then
contention while PEER_DRIVE is high, reported at 25 (CONTENTION_COUNT_EXPIRY is that boundary: log 12). With PEER_DRIVE
low and a reason it enters DRIVING: a line test is aborted, DRIVE rises, a takeover sets the link state from the mirror
and has the takeover change built, and the first mark goes out with the takeover flag and the flags of its link state. A
QUIET link wakes for a change that gives SWAP; a WAKING link counts the mark as its wake mark (log 36) and tests no such
change (log 55); any other change is tested without its count rising, and no quiet test is made (log 33). OWNERSHIP is
posted, the LINE_TEST_DONE of an aborted test before it. The mark stands for the controller's handling of the boundary,
which leaves its queue with those before it (log 8); a partial mark found there is cleared before the mark or after it
(R100, log 10). Without a reason the part only listens. At a takeover the records of every enabled screen follow the
mirror, the counter one past the peer's, only the disagreeing screens lose their kept segments, and the takeover change
is built from the firing and the sources that waited (log 34). An entry without a page id names no page (log 54). The
silence limit follows the last frame's quiet flag (log 19), a silence leaves the divergence episode open (log 20) and is
counted before contention and before the part drives (log 69); an aborted test carries VELOCITY_FACTOR (log 22) and the
sweep timer's boundary (log 62); the first mark's reading is at the boundary's time, or at that of a pulse taken since
(log 3). A part that has become GRANTED at this boundary may drive at it (log 70). -/
def Obligations.GrantedPartDrives : Prop :=
  (∀ (s : State) (b : Boundary) (due : List Boundary),
    s.bus.ownershipDue = b :: due → s.resetUnit.period = none → s.own.state = .granted →
    let went : State := { s with bus := { s.bus with ownershipDue := due } }
    let n := s.mirror.silence + 1
    let heard : State :=
      if b.byPeer = false ∧ s.mirror.silent = false ∧ (if s.mirror.link = LinkState.quiet then 19 else 3) ≤ n then
        ({ went with mirror := { s.mirror with silence := n, silent := true, divergence := 0 } }).post (.peerSilent
          (if s.mirror.current then some s.mirror.number else none) n (decide (s.mirror.link = LinkState.quiet)))
      else if b.byPeer then went else { went with mirror := { s.mirror with silence := n } }
    let reason := s.params.busHold = true ∨ s.change ≠ none ∨ s.own.takeover = true
    let counted : State := { heard with own := { s.own with contention := s.own.contention + 1 } }
    (s.own.peerDrive = true →
      (s.own.contention + 1 = 25 →
        exec .ownershipBoundary s = .next (counted.post (.contention .waiting 25 b.number))
        ∧ exec .contentionCountExpiry s = .next (counted.post (.contention .waiting 25 b.number)))
      ∧ (s.own.contention + 1 ≠ 25 →
        exec .ownershipBoundary s = .next counted ∧ exec .contentionCountExpiry s = .next s))
    ∧ (s.own.peerDrive = false → exec .contentionCountExpiry s = .next s)
    ∧ (s.own.peerDrive = false → ¬ reason → exec .ownershipBoundary s = .next heard)
    ∧ (s.own.peerDrive = false → reason →
      let takes := s.own.takeover
      let test : TestResult :=
        { outcome := .aborted .driveStart, reflected := s.lineTest.reflections.length
          velocityFactor := s.params.velocityFactor, sweep := s.bus.sweepNumber }
      let tested : State :=
        if s.lineTest.started = none then heard
        else ({ heard with lineTest := { s.lineTest with started := none, reflections := [], last := some test } }).post
          (.lineTestDone test)
      let raised : State := { tested with own := { s.own with drive := true, state := .driving } }
      let linked : State :=
        if takes = true ∧ s.mirror.link ≠ s.bus.link then
          ({ raised with bus := { raised.bus with link := s.mirror.link } }).post
            (.linkState s.mirror.link s.bus.link b.number .ownership)
        else raised
      let ready : State := if takes then linked.takeover else linked
      let woken : State := { ready with bus := { ready.bus with sinceWake := 0 } }
      let driving := fun (u : State) =>
        let left := if ∃ x ∈ s.bus.controllerDue, x.number = b.number then
            (s.bus.controllerDue.dropWhile (fun x => x.number != b.number)).tail
          else s.bus.controllerDue
        ({ u with
          own := { u.own with takeover := false, contention := 0 }
          mirror := { u.mirror with
            current := false, silence := 0, silent := false, divergence := 0, divergenceOpen := false }
          bus := { u.bus with controllerDue := left } } : State).post
            (.ownership .driving .granted b.number .driveStart takes)
      ((∀ i, ¬ ClearDue ready i) →
        (ready.bus.link = .active →
          exec .ownershipBoundary s = .next (driving (ready.withTestedMark b false false takes true)))
        ∧ (ready.bus.link = .waking →
          (GivesSwap ready →
            exec .ownershipBoundary s = .next (driving (woken.withMark b false true takes false)))
          ∧ (¬ GivesSwap ready →
            exec .ownershipBoundary s = .next (driving (woken.withTestedMark b false true takes false))))
        ∧ (ready.bus.link = .quiet →
          (GivesSwap ready → exec .ownershipBoundary s = .next (driving
            ((({ woken with bus := { woken.bus with link := .waking } }).post
              (.linkState .waking .quiet b.number .wake)).withMark b false true takes false)))
          ∧ (¬ GivesSwap ready →
            exec .ownershipBoundary s = .next (driving (ready.withTestedMark b true false takes false)))))
      ∧ ((∃ i, ClearDue ready i) → takes = false → ready.bus.link = .active →
        s.bus.tiles.map (fun t => t.address) = (List.range 16).map (fun k => k + 1) →
        let found := fun (i : Fin 4) => decide (ClearDue ready i)
        let spent : State := { ready with freeCount := s.freeCount + 1 }
        (Config.partialClearFirst s.freeCount = true → exec .ownershipBoundary s =
          .next (driving ((spent.withCleared found).withTestedMark b false false false true)))
        ∧ (Config.partialClearFirst s.freeCount = false → s.change = none → exec .ownershipBoundary s =
          .next (driving ((spent.withMark b false false false true).withCleared found))))))
  ∧ ∀ (s : State),
    let carried : List Take := match s.change with | some c => c.takes | none => []
    let inLine := fun (i : Fin 4) (c : Screen) =>
      let e := s.mirror.screens.get i
      let disagrees := !decide (Agrees (s.screens.get i) e)
      let source : Source := match e.kind with
        | .off => .blank none
        | .blank => .blank e.cue
        | .cue => .cue (e.cue.getD 0) (e.page.getD 0)
        | .override => .override (e.page.getD 0)
        | .dark => .dark
      if c.setup = none then { c with pendingShown := none }
      else { c with
        live := { source := source
                  found := decide (e.liveTag ≠ 0 ∧ e.page ≠ none ∧ (e.kind = .cue ∨ e.kind = .override)) }
        pendingShown := none, liveTag := e.liveTag
        tagCounter := if 255 ≤ e.tagCounter then 1 else e.tagCounter + 1
        partialMark := false, kept := if disagrees then [] else c.kept, reissue := c.reissue || disagrees }
    s.takeover = ({ s with
        screens := s.screens.mapIdx inLine, change := none, own := { s.own with heldChange := false } }).build
          (s.change.bind (fun c => c.firing)) carried true
    ∧ ∀ ch f, s.change = some ch → ch.firing = some f →
      ∃ d, s.takeover.change = some d ∧ d.firing = some f ∧ d.acked = [] ∧ d.markCount = 0

/-- R125 and R130: a sweep frame heard in SHADOW or GRANTED, with no line test running (R153), fills the mirror, ends a
silence and locks the sweep timer; with a new number it is a boundary of this part. In SHADOW, with SHADOW_FOLLOW on, a
FOLLOWING peer and a tracker that is STOPPED, FREE or LOST, the position is adopted (R19), the first of a run being
reported; else the position-following flag is cleared. A part that drives takes no peer frame, nor does one in a full
reset's period. In a show-safe one's the boundary reaches the controller alone, and nothing is adopted (R139); the
position-following flag stays (log 56). The link is QUIET after a frame with both the quiet and the wake flag (log 68).
A frame of the part's own number restarts the timer with the length of the sweep under way (log 72). -/
def Obligations.PeerFramesFillTheMirror : Prop :=
  ∀ (s : State) (frame : List Byte),
    (s.own.state = .driving ∨ s.own.state = .releasing → exec (.peerFrame frame) s = .next s)
    ∧ (∀ p ∈ s.resetUnit.period, p.showSafe = false → exec (.peerFrame frame) s = .next s)
    ∧ ∀ f, s.own.state = .shadow ∨ s.own.state = .granted → (∀ p ∈ s.resetUnit.period, p.showSafe = true) →
      s.lineTest.started = none → parseSweep frame = some f →
      let b : Boundary :=
        { number := f.number, time := s.showClock, periodMs := s.params.sweepPeriod, byPeer := true }
      let length := match s.bus.timer with | some t => t.length | none => s.params.sweepPeriod * 1000
      let heard : State := { s with
        mirror := { s.mirror with
          current := true, number := f.number
          link := if f.quiet then .quiet else if f.wake then .waking else .active
          tracker := f.tracker, grains := f.grains, tempo := f.tempo, screens := f.screens, silence := 0
          silent := false }
        bus := if f.number = s.bus.sweepNumber then
            { s.bus with timer := some { start := s.showClock, length := length } }
          else { s.bus with
            timer := some { start := s.showClock, length := s.params.sweepPeriod * 1000 }, sweepNumber := f.number
            controllerDue := s.bus.controllerDue ++ [b]
            schedulerDue := if s.resetUnit.period = none then s.bus.schedulerDue ++ [b] else s.bus.schedulerDue
            ownershipDue := if s.resetUnit.period = none then s.bus.ownershipDue ++ [b] else s.bus.ownershipDue } }
      let adopts := s.params.shadowFollow = true ∧ f.tracker = .following ∧ s.meter ≠ []
        ∧ (s.tracker.mode = .stopped ∨ s.tracker.mode = .free ∨ s.tracker.mode = .lost)
      (s.own.state = .granted ∨ s.resetUnit.period ≠ none → exec (.peerFrame frame) s = .next heard)
      ∧ (s.own.state = .shadow → s.resetUnit.period = none → ¬ adopts ∨ f.grains = none →
        exec (.peerFrame frame) s = .next { heard with own := { s.own with posFollow := false } })
      ∧ (s.own.state = .shadow → s.resetUnit.period = none → adopts → ∀ g, f.grains = some g →
        let ppb := s.tracker.pendingPpb.getD s.tracker.ppb
        let limited := match endGrain s.meter with | some last => min g last | none => g
        let confirmed := limited / (192 / ppb) * (192 / ppb)
        let tempo := max 200 (min f.tempo 3000)
        let period := (2 * 600000000 + tempo) / (2 * tempo)
        let adopted : State := { heard with
          own := { s.own with posFollow := true }
          tracker := { s.tracker with
            mode := .free, confirmed := confirmed, ppb := ppb, pendingPpb := none, period := period
            pulseCounter := 0, lossOpen := false } }
        exec (.peerFrame frame) s = .next (
          if s.own.posFollow then adopted
          else adopted.post (.positionAdopted f.number (fullPos s.meter (some confirmed)) (tempoOf period))))

/-- R122 to R124, R136 and R137, with R156 and R161: what the rise and fall of GRANT and of PEER_DRIVE do in each
ownership state; in a show-safe reset's period they do the same, and no notice is posted (R139), in a full one's they
only set the lines. A line already at its level changes nothing (log 2); an aborted test carries VELOCITY_FACTOR (log
22) and the sweep timer's boundary (log 62); OWNERSHIP comes before LINE_TEST_DONE and SURVEY_DONE (log 27); the silence
count goes on (log 35); a survey poll's reply window goes with the survey (log 43); BOTH_DRIVING carries the contention
count as it stands (log 46); leaving SHADOW clears the divergence counter and closes the episode (log 20). -/
def Obligations.GrantAndPeerDriveLines : Prop :=
  (∀ (s : State), (∃ p ∈ s.resetUnit.period, p.showSafe = false) →
    exec .grantRise s = .next { s with own := { s.own with grant := true } }
    ∧ exec .grantFall s = .next { s with own := { s.own with grant := false } }
    ∧ exec .peerDriveRise s = .next { s with own := { s.own with peerDrive := true } }
    ∧ exec .peerDriveFall s = .next { s with own := { s.own with peerDrive := false, bothDriving := false } })
  ∧ ∀ (s : State), (∀ p ∈ s.resetUnit.period, p.showSafe = true) →
    let sweep := s.bus.sweepNumber
    let up : Ownership := { s.own with grant := true }
    let down : Ownership := { s.own with grant := false }
    let aborted := fun (u : State) (cause : TestAbort) =>
      let r : TestResult :=
        { outcome := .aborted cause, reflected := s.lineTest.reflections.length
          velocityFactor := s.params.velocityFactor, sweep := sweep }
      if s.lineTest.started = none then u
      else ({ u with lineTest := { s.lineTest with started := none, reflections := [], last := some r } }).post
        (.lineTestDone r)
    (s.own.grant = true ∨ s.own.state = .granted ∨ s.own.state = .driving →
      exec .grantRise s = .next { s with own := up })
    ∧ (s.own.grant = false → s.own.state = .shadow → exec .grantRise s = .next (({ s with
        own := { up with state := .granted, takeover := s.mirror.current, contention := 0, posFollow := false }
        mirror := { s.mirror with divergence := 0, divergenceOpen := false } }).post
          (.ownership .granted .shadow sweep .grantRise false)))
    ∧ (s.own.grant = false → s.own.state = .releasing → exec .grantRise s = .next (
        if s.own.peerDrive then { s with own := up }
        else ({ s with own := { up with state := .driving, heldChange := false } }).post
          (.ownership .driving .releasing sweep .driveResumed false)))
    ∧ (s.own.grant = false ∨ s.own.state = .shadow ∨ s.own.state = .releasing →
      exec .grantFall s = .next { s with own := down })
    ∧ (s.own.grant = true → s.own.state = .granted → exec .grantFall s = .next (aborted
        (({ s with own := { down with state := .shadow, takeover := false, contention := 0 } }).post
          (.ownership .shadow .granted sweep .grantFall false)) .grantFall))
    ∧ (s.own.grant = true → s.own.state = .driving →
      let released : State := ({ s with own := { down with
          state := .releasing, heldChange := s.params.commitHold && s.change.isSome } }).post
        (.ownership .releasing .driving sweep .grantFall false)
      (s.survey.running = false → exec .grantFall s = .next released)
      ∧ (s.survey.running = true → exec .grantFall s = .next (({ released with
          survey := { s.survey with running := false }
          bus := { s.bus with window := s.bus.window.filter (fun w => decide (w.frame ≠ SlotFrame.surveyPoll)) } }).post
            (.surveyDone (s.surveyReport (some .driveLost))))))
    ∧ (s.own.peerDrive = true → exec .peerDriveRise s = .next s)
    ∧ (s.own.peerDrive = false →
      let risen := aborted { s with own := { s.own with peerDrive := true } } .peerDrive
      exec .peerDriveRise s = .next (
        if (s.own.state = .driving ∨ s.own.state = .releasing) ∧ s.own.bothDriving = false then
          ({ risen with own := { risen.own with bothDriving := true } }).post
            (.contention .bothDriving s.own.contention sweep)
        else risen))
    ∧ exec .peerDriveFall s = .next { s with own := { s.own with peerDrive := false, bothDriving := false } }

/-! ### Stage cue listeners (08) -/

/-- R143 to R145: SET_LISTENER's checks in order; a taken one replaces the slot's settings with the positions in
ascending order and a refractory time of at most 2,000 ms, enables it, and clears its latch and refractory end.
CLEAR_LISTENER disables a slot; READ_LISTENER reads one, with the ms left of a refractory time rounded up, 0 once its
end has come (log 61). The OK reply of SET_LISTENER carries the refractory time as the ADJUSTED one does (log 57); an
argument's ranges are checked before the map is looked at (log 38). -/
def Obligations.ListenerSlotsAreSet : Prop :=
  ∀ (s : State) (n : Nat) (body : List Byte) (rest : List Record),
    let went := s.withRequests rest
    let disabled : Slot := { setup := none, latch := false, refractoryEnd := none }
    (Waiting s 0x38 body rest → ∀ (l : ListenerSetup),
      let refused := fun (code : Status) => went.withReply 0x38 code .empty
      (4 ≤ n ∨ l.action = none → exec (.setListener n l) s = .next (refused .badArgument))
      ∧ ∀ (i : Fin 4) (action : SlotAction), i.val = n → l.action = some action →
        let positionsFit := 1 ≤ l.positions.length ∧ l.positions.length ≤ 32 ∧ (∀ p ∈ l.positions, p ≤ 31)
          ∧ l.positions.Nodup
        let argumentFits := (l.argument ≠ none ↔ action = .sync) ∧ ∀ p ∈ l.argument, 1 ≤ p.bar ∧ p.bar ≤ 9999
          ∧ 1 ≤ p.beat ∧ p.beat ≤ 16 ∧ p.grain ≤ 191
        (¬ (positionsFit ∧ argumentFits) → exec (.setListener n l) s = .next (refused .badArgument))
        ∧ (positionsFit → argumentFits → ∀ p, l.argument = some p →
          (s.meter = [] → exec (.setListener n l) s = .next (refused .refusedState))
          ∧ (s.meter ≠ [] → toGrains s.meter p = none →
            exec (.setListener n l) s = .next (refused .badArgument)))
        ∧ (positionsFit → argumentFits → (∀ p ∈ l.argument, s.meter ≠ [] ∧ toGrains s.meter p ≠ none) →
          let slot : Slot :=
            { setup := some
                { positions := (List.range 32).filter (fun p => l.positions.contains p), expected := l.expected
                  action := action, argument := l.argument, refractoryMs := min l.refractoryMs 2000 }
              latch := false, refractoryEnd := none }
          exec (.setListener n l) s = .next (({ went with
            listener := { s.listener with slots := s.listener.slots.set i slot } }).withReply 0x38
              (if l.refractoryMs ≤ 2000 then .ok else .adjusted) (.refractory (min l.refractoryMs 2000)))))
    ∧ (Waiting s 0x39 body rest →
      (4 ≤ n → exec (.clearListener n) s = .next (went.withReply 0x39 .badArgument .empty))
      ∧ ∀ i : Fin 4, i.val = n → exec (.clearListener n) s = .next (({ went with
          listener := { s.listener with slots := s.listener.slots.set i disabled } }).withReply 0x39 .ok .empty))
    ∧ (Waiting s 0x3A body rest →
      (4 ≤ n → exec (.readListener n) s = .next (went.withReply 0x3A .badArgument .empty))
      ∧ ∀ i : Fin 4, i.val = n →
        let slot := s.listener.slots.get i
        exec (.readListener n) s = .next (went.withReply 0x3A .ok (.slot
          { setup := slot.setup, latch := slot.latch
            refractoryMsLeft := slot.refractoryEnd.map (fun due =>
              if (due - s.showClock).toNat ≤ 2000000 then ((due - s.showClock).toNat + 999) / 1000 else 0) })))

/-- R140, R141 and R146 to R150: the bytes of a show-control frame taken in HUNT outside a reset period are tried
against the slots 0 to 3 in order. An enabled slot whose selected bytes are there and give the expected check, and whose
refractory end is none, starts its refractory time, has its action delivered, and posts LISTENER_MATCH. An action is
ignored in IDLE; FIRE_STAGE sets the slot's latch; the others do what the request of the name does. A length out of
range, a wrong check, a missing stop bit, and 2 ms without a byte drop the frame with the show-control error flag. A
slot's refractory expiry lets it match again, however late it is taken (R147, log 61). The bytes of one command share
one reading of the show clock (log 7); a gap expiry that is not due does nothing (log 2); a drop leaves 0 as the time of
the last byte (log 51); LISTENER_MATCH names the sweep timer's boundary (log 62). -/
def Obligations.ShowFramesMatchSlots : Prop :=
  ∀ (s : State),
    let stopped := fun (bs : List Byte) => bs.map (fun b => ({ byte := b, stopBit := true } : LineByte))
    let hunting : ShowReceiver := { phase := .hunt, length := 0, bytes := [], lastByte := s.showClock }
    let heard := fun (r : ShowReceiver) => ({ s with listener := { s.listener with receiver := r } } : State)
    let flagged := fun (r : ShowReceiver) => ({ (heard r) with port := { s.port with
      showError := { set := true, reported := false } } } : State)
    let tried := fun (body : List Byte) (u : State) (i : Fin 4) =>
      let slot := u.listener.slots.get i
      match slot.setup with
      | none => u
      | some l =>
        if (∀ p ∈ l.positions, p < body.length) ∧ crc (l.positions.filterMap (fun p => body[p]?)) = l.expected
            ∧ slot.refractoryEnd = none then
          let held : State := { u with listener := { u.listener with slots := u.listener.slots.set i { slot with
            refractoryEnd := if l.refractoryMs = 0 then none
              else some (s.showClock + BitVec.ofNat 32 (l.refractoryMs * 1000)) } } }
          let acted := held.deliver i l
          acted.1.post (.listenerMatch i l.action acted.2.1 acted.2.2 s.showClock acted.1.bus.sweepNumber)
        else u
    (∀ bytes, s.resetUnit.period ≠ none →
      exec (.showFrame bytes) s = .next s ∧ exec (.showFrameFails bytes) s = .next s)
    ∧ (s.resetUnit.period = none → s.listener.receiver.phase = .hunt → ∀ body : List Byte,
      1 ≤ body.length → body.length ≤ 64 →
      let covered := byteOf body.length :: body
      exec (.showFrame (stopped (0xD7 :: covered ++ checkBytes (crc covered)))) s =
        .next (fourNumbers.foldl (tried body) (heard hunting))
      ∧ ∀ hi lo : Byte, [hi, lo] ≠ checkBytes (crc covered) →
        exec (.showFrameFails (stopped (0xD7 :: covered ++ [hi, lo]))) s = .next (flagged hunting))
    ∧ (s.resetUnit.period = none → s.listener.receiver.phase = .hunt → ∀ n : Byte, n = 0 ∨ 64 < n.toNat →
      exec (.showFrameFails (stopped [0xD7, n])) s = .next (flagged hunting))
    ∧ (s.resetUnit.period = none → ∀ b : Byte,
      exec (.showFrameFails [{ byte := b, stopBit := false }]) s = .next (flagged { hunting with lastByte := 0 }))
    ∧ (s.resetUnit.period = none → s.listener.receiver.phase ≠ .hunt →
      2000 < (s.showClock - s.listener.receiver.lastByte).toNat →
      exec .showByteGapExpiry s = .next (flagged { hunting with lastByte := 0 }))
    ∧ (s.listener.receiver.phase = .hunt ∨ (s.showClock - s.listener.receiver.lastByte).toNat ≤ 2000 →
      exec .showByteGapExpiry s = .next s)
    ∧ (∀ (i : Fin 4) (l : SlotSetup),
      let slot := s.listener.slots.get i
      let asRequest := fun (r : State × Status × ReplyBody) (detail : MatchDetail) =>
        (r.1, (match r.2.1 with
          | .ok => MatchOutcome.taken .ok
          | .adjusted => MatchOutcome.taken .adjusted
          | code => MatchOutcome.refused code), detail)
      (s.sched.mode = .idle → s.deliver i l = (s, .ignored, .none))
      ∧ (s.sched.mode ≠ .idle →
        (l.action = .fireStage → s.deliver i l =
          if slot.latch then (s, .alreadyLatched, .none)
          else ({ s with listener := { s.listener with slots := s.listener.slots.set i { slot with latch := true } } }
            , .latched, .none))
        ∧ (l.action = .hold → s.deliver i l =
          ({ s with sched := { s.sched with mode := .held } }, .taken .ok, .none))
        ∧ (l.action = .release → s.deliver i l =
          ({ s with sched := { s.sched with mode := .running } }, .taken .ok, .none))
        ∧ (l.action = .go → s.deliver i l = asRequest s.goRequest (match s.goRequest.2.2 with
          | .goFired c => .fired c
          | .goPending => .pending
          | _ => .none))
        ∧ (l.action = .blackout → s.deliver i l = asRequest s.blackoutRequest (match s.blackoutRequest.2.2 with
          | .dark a => .dark a
          | _ => .none))
        ∧ (l.action = .lift → s.deliver i l = asRequest s.liftRequest (match s.liftRequest.2.2 with
          | .lifted issued => .lift issued
          | _ => .none))
        ∧ (l.action = .sync → ∀ p, l.argument = some p → s.deliver i l = asRequest (s.syncReply p)
          (if (s.syncReply p).2.1 = .ok ∨ (s.syncReply p).2.1 = .adjusted then .sync (s.syncRequest p).2.2
            else .none))))
    ∧ (∀ i : Fin 4, exec (.refractoryExpiry i.val) s = .next { s with listener := { s.listener with
        slots := s.listener.slots.set i { s.listener.slots.get i with refractoryEnd := none } } })
    ∧ (∀ n, 4 ≤ n → exec (.refractoryExpiry n) s = .next s)

/-! ### Line test and survey (09) -/

/-- R152 to R155 (R153's pulses, 5 ms apart, among them): LINE_TEST's checks in order, its pulses, and its completion. A
pulse records the first sample of its window of at least a quarter of its own amplitude. The result is NORMAL with fewer
than five records, else the class most records hold (SHORT, OPEN, MISMATCH on a tie), the mean delay to the nearest 4 ns
and the distance in decimetres, a half rounded up. A pulse or a completion that is not due, or comes with no test
running, does nothing (log 2); the echo is the command's operand (log 28); the records stay after a completion (log 39);
the result names the sweep timer's boundary (log 62). -/
def Obligations.LineTestFindsTheFault : Prop :=
  ∀ (s : State) (e : Echo),
    let reflection : Option Reflection :=
      ((e.samples.take 500).zipIdx.find? (fun (x : Int × Nat) => decide (e.amplitude ≤ 4 * x.1.natAbs))).map (fun (x : Int × Nat) =>
        { delayNs := 4 * (x.2 + 1)
          cls := if 3 * e.amplitude < 4 * x.1.natAbs then (if 0 < x.1 then .opened else .shorted) else .mismatch })
    (∀ rest, Waiting s 0x40 [] rest →
      let went := s.withRequests rest
      exec (.lineTest e) s = .next (
        if s.own.state ≠ .granted ∨ s.own.peerDrive = true then went.withReply 0x40 .refusedState .empty
        else if s.lineTest.started ≠ none then went.withReply 0x40 .busy .empty
        else ({ went with lineTest := { s.lineTest with
            started := some s.showClock, pulses := 1, reflections := reflection.toList } }).withReply 0x40 .ok
              .started))
    ∧ (s.lineTest.started = none → exec (.lineTestPulse e) s = .next s ∧ exec .lineTestComplete s = .next s)
    ∧ ∀ start, s.lineTest.started = some start →
      (exec (.lineTestPulse e) s = .next (
        if s.lineTest.pulses < 8
            ∧ (s.showClock - (start + BitVec.ofNat 32 (5000 * s.lineTest.pulses))).toNat < 2 ^ 31 then
          { s with lineTest := { s.lineTest with
            pulses := s.lineTest.pulses + 1, reflections := s.lineTest.reflections ++ reflection.toList } }
        else s))
      ∧ (2 ^ 31 ≤ (s.showClock - (start + 40000)).toNat → exec .lineTestComplete s = .next s)
      ∧ ((s.showClock - (start + 40000)).toNat < 2 ^ 31 →
        let held := fun (c : EchoClass) => s.lineTest.reflections.filter (fun r => decide (r.cls = c))
        let done := fun (outcome : TestOutcome) =>
          let r : TestResult :=
            { outcome := outcome, reflected := s.lineTest.reflections.length
              velocityFactor := s.params.velocityFactor, sweep := s.bus.sweepNumber }
          ({ s with lineTest := { s.lineTest with started := none, last := some r } }).post (.lineTestDone r)
        (s.lineTest.reflections.length < 5 → exec .lineTestComplete s = .next (done .normal))
        ∧ (5 ≤ s.lineTest.reflections.length →
          ∃ (c : EchoClass) (delay distance : Nat),
            exec .lineTestComplete s = .next (done (.fault c delay distance))
            ∧ (∀ d, (held d).length ≤ (held c).length)
            ∧ (c ≠ .shorted → (held .shorted).length < (held c).length)
            ∧ (c = .mismatch → (held .opened).length < (held c).length)
            ∧ delay % 4 = 0
            ∧ 2 * ((held c).map (fun r => r.delayNs)).sum < (2 * delay + 4) * (held c).length
            ∧ 2 * delay * (held c).length ≤ 2 * ((held c).map (fun r => r.delayNs)).sum + 4 * (held c).length
            ∧ 2 * (delay * s.params.velocityFactor * 3) < 200 * (2 * distance + 1)
            ∧ 200 * (2 * distance) ≤ 2 * (delay * s.params.velocityFactor * 3) + 200))

/-- R158, R160 and R161: SURVEY's checks in order; a taken one starts at address 1 with no address polled, and the
interval under way carries no poll of it. What a survey reports lists present addresses and mismatches, each in
ascending order: a configured address unanswered, an answered address of no screen, and a capacity below the screen's
characters per tile. The report names the sweep timer's boundary (log 62). -/
def Obligations.SurveyIsStartedAndJudged : Prop :=
  ∀ (s : State) (rest : List Record),
    let went := s.withRequests rest
    let started : State := { went with
      survey := { running := true, nextAddress := 1, turn := .survey, found := List.replicate 16 .notPolled }
      bus := { s.bus with interval := s.bus.interval.map (fun iv => { iv with surveyed := false }) } }
    (Waiting s 0x41 [] rest →
      (s.own.state = .driving → s.bus.link = .active → s.survey.running = false →
        exec .survey s = .next (started.withReply 0x41 .ok .started))
      ∧ (s.own.state ≠ .driving ∨ s.bus.link ≠ .active →
        exec .survey s = .next (went.withReply 0x41 .refusedState .empty))
      ∧ (s.own.state = .driving → s.bus.link = .active → s.survey.running = true →
        exec .survey s = .next (went.withReply 0x41 .busy .empty)))
    ∧ ∀ abort, s.survey.found.length = 16 → ScreensOk s.screens →
      let report := s.surveyReport abort
      let address := fun (m : Mismatch) => match m with
        | .absentConfigured a _ => a
        | .unassigned a => a
        | .shortCapacity a _ _ _ => a
      report.abort = abort ∧ report.sweep = s.bus.sweepNumber
      ∧ (report.present.map (fun p => p.1)).Pairwise (· < ·)
      ∧ (report.mismatches.map address).Pairwise (· < ·)
      ∧ report.notPolled.Pairwise (· < ·)
      ∧ (∀ a k st, 1 ≤ a → ((a, k, st) ∈ report.present ↔ s.survey.found[a - 1]? = some (.answered k st)))
      ∧ (∀ a, 1 ≤ a → (a ∈ report.notPolled ↔ s.survey.found[a - 1]? = some .notPolled))
      ∧ (∀ a i, 1 ≤ a → (.absentConfigured a i ∈ report.mismatches ↔
          s.survey.found[a - 1]? = some .unanswered ∧ a ∈ (s.screens.get i).tiles))
      ∧ (∀ a, 1 ≤ a → (.unassigned a ∈ report.mismatches ↔
          (∃ k st, s.survey.found[a - 1]? = some (.answered k st)) ∧ ∀ i, a ∉ (s.screens.get i).tiles))
      ∧ (∀ a i k cpt, 1 ≤ a → (.shortCapacity a i k cpt ∈ report.mismatches ↔
          (∃ st, s.survey.found[a - 1]? = some (.answered k st)) ∧ k < cpt
            ∧ ∃ u, (s.screens.get i).setup = some u ∧ u.cpt = cpt ∧ a ∈ u.tiles))

/-! ### Record and frame formats (11) -/

/-- R180: the check function, its four check values, the frames that end with it, and a bus frame whose check differs is
not read. -/
def Obligations.CheckFunction : Prop :=
  let shift : Check → Check := fun r => if r.getMsbD 0 then (r <<< 1) ^^^ 0x1021 else r <<< 1
  crc [] = 0xFFFF
  ∧ (∀ (bytes : List Byte) (b : Byte),
      crc (bytes ++ [b]) = shift^[8] (crc bytes ^^^ (b.setWidth 16 <<< 8)))
  ∧ crc [0x31, 0x32, 0x33, 0x34, 0x35, 0x36, 0x37, 0x38, 0x39] = 0x29B1
  ∧ crc [0x41] = 0xB915 ∧ crc [0x47] = 0xD9D3 ∧ crc [0x47, 0x4F] = 0x307F
  ∧ (∀ c : Check, checkBytes c = [c.extractLsb' 8 8, c.extractLsb' 0 8])
  ∧ (∀ (kind : Byte) (body : List Byte),
      let covered := be16 (body.length + 1) ++ kind :: body
      recordBytes kind body = 0xC3 :: covered ++ checkBytes (crc covered))
  ∧ (∀ f : BusFrame, ∃ type address body,
      let covered := [byteOf type, byteOf address] ++ be16 body.length ++ body
      f.bytes = 0x7E :: covered ++ checkBytes (crc covered))
  ∧ ∀ (type address hi lo : Byte) (body : List Byte),
      let covered := [type, address] ++ be16 body.length ++ body
      [hi, lo] ≠ checkBytes (crc covered) → readEnvelope (0x7E :: covered ++ [hi, lo]) = none

/-- The layouts of chapter 11, sections 11.3 and 11.4, read back as written: cue records, page records, sweep frames,
acknowledgements and poll answers, each field at every value its bytes can carry. -/
def Obligations.FormatsReadBackAsWritten : Prop :=
  (∀ c : CueRecord, c.wf = true → parseCue (cueBytes c) = some c)
  ∧ (∀ p : Page, p.wf = true → parsePage (pageBytes p) = some p)
  ∧ (∀ f : SweepFrame,
      (f.tracker = .stopped ↔ f.grains = none) → (∀ g ∈ f.grains, g < 2 ^ 32) → f.tempo < 65536 →
      f.tileMap.length = 16 →
      (∀ i : Fin 4, (f.screens.get i).liveTag < 256 ∧ (f.screens.get i).tagCounter < 256
        ∧ (∀ n ∈ (f.screens.get i).cue, 1 ≤ n ∧ n < 65536)
        ∧ ∀ n ∈ (f.screens.get i).page, 1 ≤ n ∧ n < 65536) →
      parseSweep (BusFrame.sweep f).bytes = some f)
  ∧ (∀ (tile : Nat) (tag : Byte), tile < 256 →
      parseAck (busEnvelope 0x82 tile [tag]) = some (tile, tag.toNat))
  ∧ ∀ (tile : Nat) (liveTag pendingTag capacity status : Byte), tile < 256 →
      parsePollReply (busEnvelope 0x83 tile [liveTag, pendingTag, capacity, status]) = some
        { tile := tile, liveTag := liveTag.toNat, pendingTag := pendingTag.toNat, capacity := capacity.toNat
          status := status.toNat }

/-! ### Invariants -/

/-- Every step keeps the stores, the queues and the lines as the spec has them (R1, R3, R14, R15, R27, R43, R65, R69,
R103, R121, R122, R138, R165, R167, R171). -/
def Obligations.EveryStepKeepsTheStores : Prop :=
  ∀ s t : State, StoresOk s → step s = .next t → StoresOk t

/-- Every step keeps the show as the spec has it (R3, R26, R28, R33, R40, R43 to R46, R56). -/
def Obligations.EveryStepKeepsTheShow : Prop :=
  ∀ s t : State, ShowOk s → step s = .next t → ShowOk t

/-- Both invariants hold right after reset. -/
def Obligations.ResetKeepsTheInvariants : Prop :=
  StoresOk State.reset ∧ ShowOk State.reset
end

