-- ==== Sys2Proof/Laws/State.lean ====
section
/-!
SUPPORT. The small lemmas of the state: reading the four-fold record after an update, and for each named
update what every field of the state then holds.
-/

namespace Sys2Proof

/-! ### The four-fold record -/

theorem Four.ext_get {α : Type} {p q : Four α} (h : ∀ i, p.get i = q.get i) : p = q := by
  obtain ⟨_, _, _, _⟩ := p
  obtain ⟨_, _, _, _⟩ := q
  simpa only [Four.mk.injEq, Four.get] using And.intro (h 0) ⟨h 1, h 2, h 3⟩

@[simp] theorem Four.get_mapIdx {α β : Type} (q : Four α) (f : Fin 4 → α → β) (i : Fin 4) :
    (q.mapIdx f).get i = f i (q.get i) := by
  fin_cases i <;> rfl

@[simp] theorem Four.get_replicate {α : Type} (a : α) (i : Fin 4) : (Four.replicate a).get i = a := by
  fin_cases i <;> rfl

@[simp] theorem Four.get_set {α : Type} (q : Four α) (i j : Fin 4) (a : α) :
    (q.set i a).get j = if j = i then a else q.get j := by
  fin_cases i <;> fin_cases j <;> rfl

theorem mem_fourNumbers (i : Fin 4) : i ∈ fourNumbers := by
  fin_cases i <;> decide

theorem fourth?_eq_some {n : Nat} {i : Fin 4} : fourth? n = some i ↔ i.val = n := by
  unfold fourth?
  split
  · simp only [Option.some.injEq, Fin.ext_iff]
    exact eq_comm
  · simp only [reduceCtorEq, false_iff]
    omega

theorem fourth?_val (i : Fin 4) : fourth? i.val = some i := fourth?_eq_some.mpr rfl

end Sys2Proof

namespace Sys2Proof.Machine

/-! ### `State.tick` -/

@[simp] theorem State.tick_pending (s : State) : s.tick.pending = s.pending := rfl
@[simp] theorem State.tick_showClock (s : State) : s.tick.showClock = s.showClock + 1 := rfl
@[simp] theorem State.tick_freeCount (s : State) : s.tick.freeCount = s.freeCount := rfl
@[simp] theorem State.tick_params (s : State) : s.tick.params = s.params := rfl
@[simp] theorem State.tick_meter (s : State) : s.tick.meter = s.meter := rfl
@[simp] theorem State.tick_tracker (s : State) : s.tick.tracker = s.tracker := rfl
@[simp] theorem State.tick_cues (s : State) : s.tick.cues = s.cues := rfl
@[simp] theorem State.tick_sched (s : State) : s.tick.sched = s.sched := rfl
@[simp] theorem State.tick_reports (s : State) : s.tick.reports = s.reports := rfl
@[simp] theorem State.tick_pages (s : State) : s.tick.pages = s.pages := rfl
@[simp] theorem State.tick_screens (s : State) : s.tick.screens = s.screens := rfl
@[simp] theorem State.tick_groupHold (s : State) : s.tick.groupHold = s.groupHold := rfl
@[simp] theorem State.tick_change (s : State) : s.tick.change = s.change := rfl
@[simp] theorem State.tick_bus (s : State) : s.tick.bus = s.bus := rfl
@[simp] theorem State.tick_own (s : State) : s.tick.own = s.own := rfl
@[simp] theorem State.tick_mirror (s : State) : s.tick.mirror = s.mirror := rfl
@[simp] theorem State.tick_listener (s : State) : s.tick.listener = s.listener := rfl
@[simp] theorem State.tick_lineTest (s : State) : s.tick.lineTest = s.lineTest := rfl
@[simp] theorem State.tick_survey (s : State) : s.tick.survey = s.survey := rfl
@[simp] theorem State.tick_port (s : State) : s.tick.port = s.port := rfl
@[simp] theorem State.tick_resetUnit (s : State) : s.tick.resetUnit = s.resetUnit := rfl

/-! ### `State.updScreen` -/

@[simp] theorem State.updScreen_pending (s : State) (i : Fin 4) (f : Screen → Screen) :
    (s.updScreen i f).pending = s.pending := rfl
@[simp] theorem State.updScreen_showClock (s : State) (i : Fin 4) (f : Screen → Screen) :
    (s.updScreen i f).showClock = s.showClock := rfl
@[simp] theorem State.updScreen_freeCount (s : State) (i : Fin 4) (f : Screen → Screen) :
    (s.updScreen i f).freeCount = s.freeCount := rfl
@[simp] theorem State.updScreen_params (s : State) (i : Fin 4) (f : Screen → Screen) :
    (s.updScreen i f).params = s.params := rfl
@[simp] theorem State.updScreen_meter (s : State) (i : Fin 4) (f : Screen → Screen) :
    (s.updScreen i f).meter = s.meter := rfl
@[simp] theorem State.updScreen_tracker (s : State) (i : Fin 4) (f : Screen → Screen) :
    (s.updScreen i f).tracker = s.tracker := rfl
@[simp] theorem State.updScreen_cues (s : State) (i : Fin 4) (f : Screen → Screen) :
    (s.updScreen i f).cues = s.cues := rfl
@[simp] theorem State.updScreen_sched (s : State) (i : Fin 4) (f : Screen → Screen) :
    (s.updScreen i f).sched = s.sched := rfl
@[simp] theorem State.updScreen_reports (s : State) (i : Fin 4) (f : Screen → Screen) :
    (s.updScreen i f).reports = s.reports := rfl
@[simp] theorem State.updScreen_pages (s : State) (i : Fin 4) (f : Screen → Screen) :
    (s.updScreen i f).pages = s.pages := rfl
@[simp] theorem State.updScreen_screens (s : State) (i : Fin 4) (f : Screen → Screen) :
    (s.updScreen i f).screens = s.screens.set i (f (s.screens.get i)) := rfl
@[simp] theorem State.updScreen_groupHold (s : State) (i : Fin 4) (f : Screen → Screen) :
    (s.updScreen i f).groupHold = s.groupHold := rfl
@[simp] theorem State.updScreen_change (s : State) (i : Fin 4) (f : Screen → Screen) :
    (s.updScreen i f).change = s.change := rfl
@[simp] theorem State.updScreen_bus (s : State) (i : Fin 4) (f : Screen → Screen) :
    (s.updScreen i f).bus = s.bus := rfl
@[simp] theorem State.updScreen_own (s : State) (i : Fin 4) (f : Screen → Screen) :
    (s.updScreen i f).own = s.own := rfl
@[simp] theorem State.updScreen_mirror (s : State) (i : Fin 4) (f : Screen → Screen) :
    (s.updScreen i f).mirror = s.mirror := rfl
@[simp] theorem State.updScreen_listener (s : State) (i : Fin 4) (f : Screen → Screen) :
    (s.updScreen i f).listener = s.listener := rfl
@[simp] theorem State.updScreen_lineTest (s : State) (i : Fin 4) (f : Screen → Screen) :
    (s.updScreen i f).lineTest = s.lineTest := rfl
@[simp] theorem State.updScreen_survey (s : State) (i : Fin 4) (f : Screen → Screen) :
    (s.updScreen i f).survey = s.survey := rfl
@[simp] theorem State.updScreen_port (s : State) (i : Fin 4) (f : Screen → Screen) :
    (s.updScreen i f).port = s.port := rfl
@[simp] theorem State.updScreen_resetUnit (s : State) (i : Fin 4) (f : Screen → Screen) :
    (s.updScreen i f).resetUnit = s.resetUnit := rfl

/-! ### `State.updScreens` -/

@[simp] theorem State.updScreens_pending (s : State) (f : Fin 4 → Screen → Screen) :
    (s.updScreens f).pending = s.pending := rfl
@[simp] theorem State.updScreens_showClock (s : State) (f : Fin 4 → Screen → Screen) :
    (s.updScreens f).showClock = s.showClock := rfl
@[simp] theorem State.updScreens_freeCount (s : State) (f : Fin 4 → Screen → Screen) :
    (s.updScreens f).freeCount = s.freeCount := rfl
@[simp] theorem State.updScreens_params (s : State) (f : Fin 4 → Screen → Screen) :
    (s.updScreens f).params = s.params := rfl
@[simp] theorem State.updScreens_meter (s : State) (f : Fin 4 → Screen → Screen) :
    (s.updScreens f).meter = s.meter := rfl
@[simp] theorem State.updScreens_tracker (s : State) (f : Fin 4 → Screen → Screen) :
    (s.updScreens f).tracker = s.tracker := rfl
@[simp] theorem State.updScreens_cues (s : State) (f : Fin 4 → Screen → Screen) :
    (s.updScreens f).cues = s.cues := rfl
@[simp] theorem State.updScreens_sched (s : State) (f : Fin 4 → Screen → Screen) :
    (s.updScreens f).sched = s.sched := rfl
@[simp] theorem State.updScreens_reports (s : State) (f : Fin 4 → Screen → Screen) :
    (s.updScreens f).reports = s.reports := rfl
@[simp] theorem State.updScreens_pages (s : State) (f : Fin 4 → Screen → Screen) :
    (s.updScreens f).pages = s.pages := rfl
@[simp] theorem State.updScreens_screens (s : State) (f : Fin 4 → Screen → Screen) :
    (s.updScreens f).screens = s.screens.mapIdx f := rfl
@[simp] theorem State.updScreens_groupHold (s : State) (f : Fin 4 → Screen → Screen) :
    (s.updScreens f).groupHold = s.groupHold := rfl
@[simp] theorem State.updScreens_change (s : State) (f : Fin 4 → Screen → Screen) :
    (s.updScreens f).change = s.change := rfl
@[simp] theorem State.updScreens_bus (s : State) (f : Fin 4 → Screen → Screen) :
    (s.updScreens f).bus = s.bus := rfl
@[simp] theorem State.updScreens_own (s : State) (f : Fin 4 → Screen → Screen) :
    (s.updScreens f).own = s.own := rfl
@[simp] theorem State.updScreens_mirror (s : State) (f : Fin 4 → Screen → Screen) :
    (s.updScreens f).mirror = s.mirror := rfl
@[simp] theorem State.updScreens_listener (s : State) (f : Fin 4 → Screen → Screen) :
    (s.updScreens f).listener = s.listener := rfl
@[simp] theorem State.updScreens_lineTest (s : State) (f : Fin 4 → Screen → Screen) :
    (s.updScreens f).lineTest = s.lineTest := rfl
@[simp] theorem State.updScreens_survey (s : State) (f : Fin 4 → Screen → Screen) :
    (s.updScreens f).survey = s.survey := rfl
@[simp] theorem State.updScreens_port (s : State) (f : Fin 4 → Screen → Screen) :
    (s.updScreens f).port = s.port := rfl
@[simp] theorem State.updScreens_resetUnit (s : State) (f : Fin 4 → Screen → Screen) :
    (s.updScreens f).resetUnit = s.resetUnit := rfl

/-! ### `State.updTiles` -/

@[simp] theorem State.updTiles_pending (s : State) (f : Tile → Tile) :
    (s.updTiles f).pending = s.pending := rfl
@[simp] theorem State.updTiles_showClock (s : State) (f : Tile → Tile) :
    (s.updTiles f).showClock = s.showClock := rfl
@[simp] theorem State.updTiles_freeCount (s : State) (f : Tile → Tile) :
    (s.updTiles f).freeCount = s.freeCount := rfl
@[simp] theorem State.updTiles_params (s : State) (f : Tile → Tile) :
    (s.updTiles f).params = s.params := rfl
@[simp] theorem State.updTiles_meter (s : State) (f : Tile → Tile) : (s.updTiles f).meter = s.meter := rfl
@[simp] theorem State.updTiles_tracker (s : State) (f : Tile → Tile) :
    (s.updTiles f).tracker = s.tracker := rfl
@[simp] theorem State.updTiles_cues (s : State) (f : Tile → Tile) : (s.updTiles f).cues = s.cues := rfl
@[simp] theorem State.updTiles_sched (s : State) (f : Tile → Tile) : (s.updTiles f).sched = s.sched := rfl
@[simp] theorem State.updTiles_reports (s : State) (f : Tile → Tile) :
    (s.updTiles f).reports = s.reports := rfl
@[simp] theorem State.updTiles_pages (s : State) (f : Tile → Tile) : (s.updTiles f).pages = s.pages := rfl
@[simp] theorem State.updTiles_screens (s : State) (f : Tile → Tile) :
    (s.updTiles f).screens = s.screens := rfl
@[simp] theorem State.updTiles_groupHold (s : State) (f : Tile → Tile) :
    (s.updTiles f).groupHold = s.groupHold := rfl
@[simp] theorem State.updTiles_change (s : State) (f : Tile → Tile) :
    (s.updTiles f).change = s.change := rfl
@[simp] theorem State.updTiles_bus (s : State) (f : Tile → Tile) :
    (s.updTiles f).bus = { s.bus with tiles := s.bus.tiles.map f } := rfl
@[simp] theorem State.updTiles_own (s : State) (f : Tile → Tile) : (s.updTiles f).own = s.own := rfl
@[simp] theorem State.updTiles_mirror (s : State) (f : Tile → Tile) :
    (s.updTiles f).mirror = s.mirror := rfl
@[simp] theorem State.updTiles_listener (s : State) (f : Tile → Tile) :
    (s.updTiles f).listener = s.listener := rfl
@[simp] theorem State.updTiles_lineTest (s : State) (f : Tile → Tile) :
    (s.updTiles f).lineTest = s.lineTest := rfl
@[simp] theorem State.updTiles_survey (s : State) (f : Tile → Tile) :
    (s.updTiles f).survey = s.survey := rfl
@[simp] theorem State.updTiles_port (s : State) (f : Tile → Tile) : (s.updTiles f).port = s.port := rfl
@[simp] theorem State.updTiles_resetUnit (s : State) (f : Tile → Tile) :
    (s.updTiles f).resetUnit = s.resetUnit := rfl

/-! ### `State.updSlot` -/

@[simp] theorem State.updSlot_pending (s : State) (i : Fin 4) (f : Slot → Slot) :
    (s.updSlot i f).pending = s.pending := rfl
@[simp] theorem State.updSlot_showClock (s : State) (i : Fin 4) (f : Slot → Slot) :
    (s.updSlot i f).showClock = s.showClock := rfl
@[simp] theorem State.updSlot_freeCount (s : State) (i : Fin 4) (f : Slot → Slot) :
    (s.updSlot i f).freeCount = s.freeCount := rfl
@[simp] theorem State.updSlot_params (s : State) (i : Fin 4) (f : Slot → Slot) :
    (s.updSlot i f).params = s.params := rfl
@[simp] theorem State.updSlot_meter (s : State) (i : Fin 4) (f : Slot → Slot) :
    (s.updSlot i f).meter = s.meter := rfl
@[simp] theorem State.updSlot_tracker (s : State) (i : Fin 4) (f : Slot → Slot) :
    (s.updSlot i f).tracker = s.tracker := rfl
@[simp] theorem State.updSlot_cues (s : State) (i : Fin 4) (f : Slot → Slot) :
    (s.updSlot i f).cues = s.cues := rfl
@[simp] theorem State.updSlot_sched (s : State) (i : Fin 4) (f : Slot → Slot) :
    (s.updSlot i f).sched = s.sched := rfl
@[simp] theorem State.updSlot_reports (s : State) (i : Fin 4) (f : Slot → Slot) :
    (s.updSlot i f).reports = s.reports := rfl
@[simp] theorem State.updSlot_pages (s : State) (i : Fin 4) (f : Slot → Slot) :
    (s.updSlot i f).pages = s.pages := rfl
@[simp] theorem State.updSlot_screens (s : State) (i : Fin 4) (f : Slot → Slot) :
    (s.updSlot i f).screens = s.screens := rfl
@[simp] theorem State.updSlot_groupHold (s : State) (i : Fin 4) (f : Slot → Slot) :
    (s.updSlot i f).groupHold = s.groupHold := rfl
@[simp] theorem State.updSlot_change (s : State) (i : Fin 4) (f : Slot → Slot) :
    (s.updSlot i f).change = s.change := rfl
@[simp] theorem State.updSlot_bus (s : State) (i : Fin 4) (f : Slot → Slot) :
    (s.updSlot i f).bus = s.bus := rfl
@[simp] theorem State.updSlot_own (s : State) (i : Fin 4) (f : Slot → Slot) :
    (s.updSlot i f).own = s.own := rfl
@[simp] theorem State.updSlot_mirror (s : State) (i : Fin 4) (f : Slot → Slot) :
    (s.updSlot i f).mirror = s.mirror := rfl
@[simp] theorem State.updSlot_listener (s : State) (i : Fin 4) (f : Slot → Slot) :
    (s.updSlot i f).listener = { s.listener with slots := s.listener.slots.set i (f (s.listener.slots.get i)) } := rfl
@[simp] theorem State.updSlot_lineTest (s : State) (i : Fin 4) (f : Slot → Slot) :
    (s.updSlot i f).lineTest = s.lineTest := rfl
@[simp] theorem State.updSlot_survey (s : State) (i : Fin 4) (f : Slot → Slot) :
    (s.updSlot i f).survey = s.survey := rfl
@[simp] theorem State.updSlot_port (s : State) (i : Fin 4) (f : Slot → Slot) :
    (s.updSlot i f).port = s.port := rfl
@[simp] theorem State.updSlot_resetUnit (s : State) (i : Fin 4) (f : Slot → Slot) :
    (s.updSlot i f).resetUnit = s.resetUnit := rfl

/-! ### `State.clearLatches` -/

@[simp] theorem State.clearLatches_pending (s : State) : s.clearLatches.pending = s.pending := rfl
@[simp] theorem State.clearLatches_showClock (s : State) : s.clearLatches.showClock = s.showClock := rfl
@[simp] theorem State.clearLatches_freeCount (s : State) : s.clearLatches.freeCount = s.freeCount := rfl
@[simp] theorem State.clearLatches_params (s : State) : s.clearLatches.params = s.params := rfl
@[simp] theorem State.clearLatches_meter (s : State) : s.clearLatches.meter = s.meter := rfl
@[simp] theorem State.clearLatches_tracker (s : State) : s.clearLatches.tracker = s.tracker := rfl
@[simp] theorem State.clearLatches_cues (s : State) : s.clearLatches.cues = s.cues := rfl
@[simp] theorem State.clearLatches_sched (s : State) : s.clearLatches.sched = s.sched := rfl
@[simp] theorem State.clearLatches_reports (s : State) : s.clearLatches.reports = s.reports := rfl
@[simp] theorem State.clearLatches_pages (s : State) : s.clearLatches.pages = s.pages := rfl
@[simp] theorem State.clearLatches_screens (s : State) : s.clearLatches.screens = s.screens := rfl
@[simp] theorem State.clearLatches_groupHold (s : State) : s.clearLatches.groupHold = s.groupHold := rfl
@[simp] theorem State.clearLatches_change (s : State) : s.clearLatches.change = s.change := rfl
@[simp] theorem State.clearLatches_bus (s : State) : s.clearLatches.bus = s.bus := rfl
@[simp] theorem State.clearLatches_own (s : State) : s.clearLatches.own = s.own := rfl
@[simp] theorem State.clearLatches_mirror (s : State) : s.clearLatches.mirror = s.mirror := rfl
@[simp] theorem State.clearLatches_listener (s : State) :
    s.clearLatches.listener = { s.listener with slots := s.listener.slots.mapIdx (fun _ sl => { sl with latch := false }) } := rfl
@[simp] theorem State.clearLatches_lineTest (s : State) : s.clearLatches.lineTest = s.lineTest := rfl
@[simp] theorem State.clearLatches_survey (s : State) : s.clearLatches.survey = s.survey := rfl
@[simp] theorem State.clearLatches_port (s : State) : s.clearLatches.port = s.port := rfl
@[simp] theorem State.clearLatches_resetUnit (s : State) : s.clearLatches.resetUnit = s.resetUnit := rfl

/-! ### `State.withRequests` -/

@[simp] theorem State.withRequests_pending (s : State) (rest : List Record) :
    (s.withRequests rest).pending = s.pending := rfl
@[simp] theorem State.withRequests_showClock (s : State) (rest : List Record) :
    (s.withRequests rest).showClock = s.showClock := rfl
@[simp] theorem State.withRequests_freeCount (s : State) (rest : List Record) :
    (s.withRequests rest).freeCount = s.freeCount := rfl
@[simp] theorem State.withRequests_params (s : State) (rest : List Record) :
    (s.withRequests rest).params = s.params := rfl
@[simp] theorem State.withRequests_meter (s : State) (rest : List Record) :
    (s.withRequests rest).meter = s.meter := rfl
@[simp] theorem State.withRequests_tracker (s : State) (rest : List Record) :
    (s.withRequests rest).tracker = s.tracker := rfl
@[simp] theorem State.withRequests_cues (s : State) (rest : List Record) :
    (s.withRequests rest).cues = s.cues := rfl
@[simp] theorem State.withRequests_sched (s : State) (rest : List Record) :
    (s.withRequests rest).sched = s.sched := rfl
@[simp] theorem State.withRequests_reports (s : State) (rest : List Record) :
    (s.withRequests rest).reports = s.reports := rfl
@[simp] theorem State.withRequests_pages (s : State) (rest : List Record) :
    (s.withRequests rest).pages = s.pages := rfl
@[simp] theorem State.withRequests_screens (s : State) (rest : List Record) :
    (s.withRequests rest).screens = s.screens := rfl
@[simp] theorem State.withRequests_groupHold (s : State) (rest : List Record) :
    (s.withRequests rest).groupHold = s.groupHold := rfl
@[simp] theorem State.withRequests_change (s : State) (rest : List Record) :
    (s.withRequests rest).change = s.change := rfl
@[simp] theorem State.withRequests_bus (s : State) (rest : List Record) :
    (s.withRequests rest).bus = s.bus := rfl
@[simp] theorem State.withRequests_own (s : State) (rest : List Record) :
    (s.withRequests rest).own = s.own := rfl
@[simp] theorem State.withRequests_mirror (s : State) (rest : List Record) :
    (s.withRequests rest).mirror = s.mirror := rfl
@[simp] theorem State.withRequests_listener (s : State) (rest : List Record) :
    (s.withRequests rest).listener = s.listener := rfl
@[simp] theorem State.withRequests_lineTest (s : State) (rest : List Record) :
    (s.withRequests rest).lineTest = s.lineTest := rfl
@[simp] theorem State.withRequests_survey (s : State) (rest : List Record) :
    (s.withRequests rest).survey = s.survey := rfl
@[simp] theorem State.withRequests_port (s : State) (rest : List Record) :
    (s.withRequests rest).port = { s.port with requests := rest } := rfl
@[simp] theorem State.withRequests_resetUnit (s : State) (rest : List Record) :
    (s.withRequests rest).resetUnit = s.resetUnit := rfl

/-! ### `State.withReply` -/

@[simp] theorem State.withReply_pending (s : State) (k : Byte) (c : Status) (b : ReplyBody) :
    (s.withReply k c b).pending = s.pending := rfl
@[simp] theorem State.withReply_showClock (s : State) (k : Byte) (c : Status) (b : ReplyBody) :
    (s.withReply k c b).showClock = s.showClock := rfl
@[simp] theorem State.withReply_freeCount (s : State) (k : Byte) (c : Status) (b : ReplyBody) :
    (s.withReply k c b).freeCount = s.freeCount := rfl
@[simp] theorem State.withReply_params (s : State) (k : Byte) (c : Status) (b : ReplyBody) :
    (s.withReply k c b).params = s.params := rfl
@[simp] theorem State.withReply_meter (s : State) (k : Byte) (c : Status) (b : ReplyBody) :
    (s.withReply k c b).meter = s.meter := rfl
@[simp] theorem State.withReply_tracker (s : State) (k : Byte) (c : Status) (b : ReplyBody) :
    (s.withReply k c b).tracker = s.tracker := rfl
@[simp] theorem State.withReply_cues (s : State) (k : Byte) (c : Status) (b : ReplyBody) :
    (s.withReply k c b).cues = s.cues := rfl
@[simp] theorem State.withReply_sched (s : State) (k : Byte) (c : Status) (b : ReplyBody) :
    (s.withReply k c b).sched = s.sched := rfl
@[simp] theorem State.withReply_reports (s : State) (k : Byte) (c : Status) (b : ReplyBody) :
    (s.withReply k c b).reports = s.reports := rfl
@[simp] theorem State.withReply_pages (s : State) (k : Byte) (c : Status) (b : ReplyBody) :
    (s.withReply k c b).pages = s.pages := rfl
@[simp] theorem State.withReply_screens (s : State) (k : Byte) (c : Status) (b : ReplyBody) :
    (s.withReply k c b).screens = s.screens := rfl
@[simp] theorem State.withReply_groupHold (s : State) (k : Byte) (c : Status) (b : ReplyBody) :
    (s.withReply k c b).groupHold = s.groupHold := rfl
@[simp] theorem State.withReply_change (s : State) (k : Byte) (c : Status) (b : ReplyBody) :
    (s.withReply k c b).change = s.change := rfl
@[simp] theorem State.withReply_bus (s : State) (k : Byte) (c : Status) (b : ReplyBody) :
    (s.withReply k c b).bus = s.bus := rfl
@[simp] theorem State.withReply_own (s : State) (k : Byte) (c : Status) (b : ReplyBody) :
    (s.withReply k c b).own = s.own := rfl
@[simp] theorem State.withReply_mirror (s : State) (k : Byte) (c : Status) (b : ReplyBody) :
    (s.withReply k c b).mirror = s.mirror := rfl
@[simp] theorem State.withReply_listener (s : State) (k : Byte) (c : Status) (b : ReplyBody) :
    (s.withReply k c b).listener = s.listener := rfl
@[simp] theorem State.withReply_lineTest (s : State) (k : Byte) (c : Status) (b : ReplyBody) :
    (s.withReply k c b).lineTest = s.lineTest := rfl
@[simp] theorem State.withReply_survey (s : State) (k : Byte) (c : Status) (b : ReplyBody) :
    (s.withReply k c b).survey = s.survey := rfl
@[simp] theorem State.withReply_resetUnit (s : State) (k : Byte) (c : Status) (b : ReplyBody) :
    (s.withReply k c b).resetUnit = s.resetUnit := rfl

/-! ### `State.dropRequest` -/

@[simp] theorem State.dropRequest_pending (s : State) : s.dropRequest.pending = s.pending := rfl
@[simp] theorem State.dropRequest_showClock (s : State) : s.dropRequest.showClock = s.showClock := rfl
@[simp] theorem State.dropRequest_freeCount (s : State) : s.dropRequest.freeCount = s.freeCount := rfl
@[simp] theorem State.dropRequest_params (s : State) : s.dropRequest.params = s.params := rfl
@[simp] theorem State.dropRequest_meter (s : State) : s.dropRequest.meter = s.meter := rfl
@[simp] theorem State.dropRequest_tracker (s : State) : s.dropRequest.tracker = s.tracker := rfl
@[simp] theorem State.dropRequest_cues (s : State) : s.dropRequest.cues = s.cues := rfl
@[simp] theorem State.dropRequest_sched (s : State) : s.dropRequest.sched = s.sched := rfl
@[simp] theorem State.dropRequest_reports (s : State) : s.dropRequest.reports = s.reports := rfl
@[simp] theorem State.dropRequest_pages (s : State) : s.dropRequest.pages = s.pages := rfl
@[simp] theorem State.dropRequest_screens (s : State) : s.dropRequest.screens = s.screens := rfl
@[simp] theorem State.dropRequest_groupHold (s : State) : s.dropRequest.groupHold = s.groupHold := rfl
@[simp] theorem State.dropRequest_change (s : State) : s.dropRequest.change = s.change := rfl
@[simp] theorem State.dropRequest_bus (s : State) : s.dropRequest.bus = s.bus := rfl
@[simp] theorem State.dropRequest_own (s : State) : s.dropRequest.own = s.own := rfl
@[simp] theorem State.dropRequest_mirror (s : State) : s.dropRequest.mirror = s.mirror := rfl
@[simp] theorem State.dropRequest_listener (s : State) : s.dropRequest.listener = s.listener := rfl
@[simp] theorem State.dropRequest_lineTest (s : State) : s.dropRequest.lineTest = s.lineTest := rfl
@[simp] theorem State.dropRequest_survey (s : State) : s.dropRequest.survey = s.survey := rfl
@[simp] theorem State.dropRequest_port (s : State) :
    s.dropRequest.port = { s.port with requests := s.port.requests.tail } := rfl
@[simp] theorem State.dropRequest_resetUnit (s : State) : s.dropRequest.resetUnit = s.resetUnit := rfl

/-! ### `State.answer` -/

@[simp] theorem State.answer_pending (s : State) (k : Byte) (c : Status) (b : ReplyBody) :
    (s.answer k c b).pending = s.pending := rfl
@[simp] theorem State.answer_showClock (s : State) (k : Byte) (c : Status) (b : ReplyBody) :
    (s.answer k c b).showClock = s.showClock := rfl
@[simp] theorem State.answer_freeCount (s : State) (k : Byte) (c : Status) (b : ReplyBody) :
    (s.answer k c b).freeCount = s.freeCount := rfl
@[simp] theorem State.answer_params (s : State) (k : Byte) (c : Status) (b : ReplyBody) :
    (s.answer k c b).params = s.params := rfl
@[simp] theorem State.answer_meter (s : State) (k : Byte) (c : Status) (b : ReplyBody) :
    (s.answer k c b).meter = s.meter := rfl
@[simp] theorem State.answer_tracker (s : State) (k : Byte) (c : Status) (b : ReplyBody) :
    (s.answer k c b).tracker = s.tracker := rfl
@[simp] theorem State.answer_cues (s : State) (k : Byte) (c : Status) (b : ReplyBody) :
    (s.answer k c b).cues = s.cues := rfl
@[simp] theorem State.answer_sched (s : State) (k : Byte) (c : Status) (b : ReplyBody) :
    (s.answer k c b).sched = s.sched := rfl
@[simp] theorem State.answer_reports (s : State) (k : Byte) (c : Status) (b : ReplyBody) :
    (s.answer k c b).reports = s.reports := rfl
@[simp] theorem State.answer_pages (s : State) (k : Byte) (c : Status) (b : ReplyBody) :
    (s.answer k c b).pages = s.pages := rfl
@[simp] theorem State.answer_screens (s : State) (k : Byte) (c : Status) (b : ReplyBody) :
    (s.answer k c b).screens = s.screens := rfl
@[simp] theorem State.answer_groupHold (s : State) (k : Byte) (c : Status) (b : ReplyBody) :
    (s.answer k c b).groupHold = s.groupHold := rfl
@[simp] theorem State.answer_change (s : State) (k : Byte) (c : Status) (b : ReplyBody) :
    (s.answer k c b).change = s.change := rfl
@[simp] theorem State.answer_bus (s : State) (k : Byte) (c : Status) (b : ReplyBody) :
    (s.answer k c b).bus = s.bus := rfl
@[simp] theorem State.answer_own (s : State) (k : Byte) (c : Status) (b : ReplyBody) :
    (s.answer k c b).own = s.own := rfl
@[simp] theorem State.answer_mirror (s : State) (k : Byte) (c : Status) (b : ReplyBody) :
    (s.answer k c b).mirror = s.mirror := rfl
@[simp] theorem State.answer_listener (s : State) (k : Byte) (c : Status) (b : ReplyBody) :
    (s.answer k c b).listener = s.listener := rfl
@[simp] theorem State.answer_lineTest (s : State) (k : Byte) (c : Status) (b : ReplyBody) :
    (s.answer k c b).lineTest = s.lineTest := rfl
@[simp] theorem State.answer_survey (s : State) (k : Byte) (c : Status) (b : ReplyBody) :
    (s.answer k c b).survey = s.survey := rfl
@[simp] theorem State.answer_resetUnit (s : State) (k : Byte) (c : Status) (b : ReplyBody) :
    (s.answer k c b).resetUnit = s.resetUnit := rfl

/-! ### `State.setPort` -/

@[simp] theorem State.setPort_pending (s : State) (p : ControlPort) :
    (s.setPort p).pending = s.pending := rfl
@[simp] theorem State.setPort_showClock (s : State) (p : ControlPort) :
    (s.setPort p).showClock = s.showClock := rfl
@[simp] theorem State.setPort_freeCount (s : State) (p : ControlPort) :
    (s.setPort p).freeCount = s.freeCount := rfl
@[simp] theorem State.setPort_params (s : State) (p : ControlPort) : (s.setPort p).params = s.params := rfl
@[simp] theorem State.setPort_meter (s : State) (p : ControlPort) : (s.setPort p).meter = s.meter := rfl
@[simp] theorem State.setPort_tracker (s : State) (p : ControlPort) :
    (s.setPort p).tracker = s.tracker := rfl
@[simp] theorem State.setPort_cues (s : State) (p : ControlPort) : (s.setPort p).cues = s.cues := rfl
@[simp] theorem State.setPort_sched (s : State) (p : ControlPort) : (s.setPort p).sched = s.sched := rfl
@[simp] theorem State.setPort_reports (s : State) (p : ControlPort) :
    (s.setPort p).reports = s.reports := rfl
@[simp] theorem State.setPort_pages (s : State) (p : ControlPort) : (s.setPort p).pages = s.pages := rfl
@[simp] theorem State.setPort_screens (s : State) (p : ControlPort) :
    (s.setPort p).screens = s.screens := rfl
@[simp] theorem State.setPort_groupHold (s : State) (p : ControlPort) :
    (s.setPort p).groupHold = s.groupHold := rfl
@[simp] theorem State.setPort_change (s : State) (p : ControlPort) : (s.setPort p).change = s.change := rfl
@[simp] theorem State.setPort_bus (s : State) (p : ControlPort) : (s.setPort p).bus = s.bus := rfl
@[simp] theorem State.setPort_own (s : State) (p : ControlPort) : (s.setPort p).own = s.own := rfl
@[simp] theorem State.setPort_mirror (s : State) (p : ControlPort) : (s.setPort p).mirror = s.mirror := rfl
@[simp] theorem State.setPort_listener (s : State) (p : ControlPort) :
    (s.setPort p).listener = s.listener := rfl
@[simp] theorem State.setPort_lineTest (s : State) (p : ControlPort) :
    (s.setPort p).lineTest = s.lineTest := rfl
@[simp] theorem State.setPort_survey (s : State) (p : ControlPort) : (s.setPort p).survey = s.survey := rfl
@[simp] theorem State.setPort_port (s : State) (p : ControlPort) : (s.setPort p).port = p := rfl
@[simp] theorem State.setPort_resetUnit (s : State) (p : ControlPort) :
    (s.setPort p).resetUnit = s.resetUnit := rfl

/-! ### `State.setParams` -/

@[simp] theorem State.setParams_pending (s : State) (p : Params) :
    (s.setParams p).pending = s.pending := rfl
@[simp] theorem State.setParams_showClock (s : State) (p : Params) :
    (s.setParams p).showClock = s.showClock := rfl
@[simp] theorem State.setParams_freeCount (s : State) (p : Params) :
    (s.setParams p).freeCount = s.freeCount := rfl
@[simp] theorem State.setParams_params (s : State) (p : Params) : (s.setParams p).params = p := rfl
@[simp] theorem State.setParams_meter (s : State) (p : Params) : (s.setParams p).meter = s.meter := rfl
@[simp] theorem State.setParams_tracker (s : State) (p : Params) :
    (s.setParams p).tracker = s.tracker := rfl
@[simp] theorem State.setParams_cues (s : State) (p : Params) : (s.setParams p).cues = s.cues := rfl
@[simp] theorem State.setParams_sched (s : State) (p : Params) : (s.setParams p).sched = s.sched := rfl
@[simp] theorem State.setParams_reports (s : State) (p : Params) :
    (s.setParams p).reports = s.reports := rfl
@[simp] theorem State.setParams_pages (s : State) (p : Params) : (s.setParams p).pages = s.pages := rfl
@[simp] theorem State.setParams_screens (s : State) (p : Params) :
    (s.setParams p).screens = s.screens := rfl
@[simp] theorem State.setParams_groupHold (s : State) (p : Params) :
    (s.setParams p).groupHold = s.groupHold := rfl
@[simp] theorem State.setParams_change (s : State) (p : Params) : (s.setParams p).change = s.change := rfl
@[simp] theorem State.setParams_bus (s : State) (p : Params) : (s.setParams p).bus = s.bus := rfl
@[simp] theorem State.setParams_own (s : State) (p : Params) : (s.setParams p).own = s.own := rfl
@[simp] theorem State.setParams_mirror (s : State) (p : Params) : (s.setParams p).mirror = s.mirror := rfl
@[simp] theorem State.setParams_listener (s : State) (p : Params) :
    (s.setParams p).listener = s.listener := rfl
@[simp] theorem State.setParams_lineTest (s : State) (p : Params) :
    (s.setParams p).lineTest = s.lineTest := rfl
@[simp] theorem State.setParams_survey (s : State) (p : Params) : (s.setParams p).survey = s.survey := rfl
@[simp] theorem State.setParams_port (s : State) (p : Params) : (s.setParams p).port = s.port := rfl
@[simp] theorem State.setParams_resetUnit (s : State) (p : Params) :
    (s.setParams p).resetUnit = s.resetUnit := rfl

/-! ### `State.setBlackout` -/

@[simp] theorem State.setBlackout_pending (s : State) (on : Bool) :
    (s.setBlackout on).pending = s.pending := rfl
@[simp] theorem State.setBlackout_showClock (s : State) (on : Bool) :
    (s.setBlackout on).showClock = s.showClock := rfl
@[simp] theorem State.setBlackout_freeCount (s : State) (on : Bool) :
    (s.setBlackout on).freeCount = s.freeCount := rfl
@[simp] theorem State.setBlackout_params (s : State) (on : Bool) :
    (s.setBlackout on).params = s.params := rfl
@[simp] theorem State.setBlackout_meter (s : State) (on : Bool) : (s.setBlackout on).meter = s.meter := rfl
@[simp] theorem State.setBlackout_tracker (s : State) (on : Bool) :
    (s.setBlackout on).tracker = s.tracker := rfl
@[simp] theorem State.setBlackout_cues (s : State) (on : Bool) : (s.setBlackout on).cues = s.cues := rfl
@[simp] theorem State.setBlackout_sched (s : State) (on : Bool) :
    (s.setBlackout on).sched = { s.sched with blackout := on } := rfl
@[simp] theorem State.setBlackout_reports (s : State) (on : Bool) :
    (s.setBlackout on).reports = s.reports := rfl
@[simp] theorem State.setBlackout_pages (s : State) (on : Bool) : (s.setBlackout on).pages = s.pages := rfl
@[simp] theorem State.setBlackout_screens (s : State) (on : Bool) :
    (s.setBlackout on).screens = s.screens := rfl
@[simp] theorem State.setBlackout_groupHold (s : State) (on : Bool) :
    (s.setBlackout on).groupHold = s.groupHold := rfl
@[simp] theorem State.setBlackout_change (s : State) (on : Bool) :
    (s.setBlackout on).change = s.change := rfl
@[simp] theorem State.setBlackout_bus (s : State) (on : Bool) : (s.setBlackout on).bus = s.bus := rfl
@[simp] theorem State.setBlackout_own (s : State) (on : Bool) : (s.setBlackout on).own = s.own := rfl
@[simp] theorem State.setBlackout_mirror (s : State) (on : Bool) :
    (s.setBlackout on).mirror = s.mirror := rfl
@[simp] theorem State.setBlackout_listener (s : State) (on : Bool) :
    (s.setBlackout on).listener = s.listener := rfl
@[simp] theorem State.setBlackout_lineTest (s : State) (on : Bool) :
    (s.setBlackout on).lineTest = s.lineTest := rfl
@[simp] theorem State.setBlackout_survey (s : State) (on : Bool) :
    (s.setBlackout on).survey = s.survey := rfl
@[simp] theorem State.setBlackout_port (s : State) (on : Bool) : (s.setBlackout on).port = s.port := rfl
@[simp] theorem State.setBlackout_resetUnit (s : State) (on : Bool) :
    (s.setBlackout on).resetUnit = s.resetUnit := rfl

/-! ### `State.setPeriod` -/

@[simp] theorem State.setPeriod_pending (s : State) (p : Option ResetPeriod) :
    (s.setPeriod p).pending = s.pending := rfl
@[simp] theorem State.setPeriod_showClock (s : State) (p : Option ResetPeriod) :
    (s.setPeriod p).showClock = s.showClock := rfl
@[simp] theorem State.setPeriod_freeCount (s : State) (p : Option ResetPeriod) :
    (s.setPeriod p).freeCount = s.freeCount := rfl
@[simp] theorem State.setPeriod_params (s : State) (p : Option ResetPeriod) :
    (s.setPeriod p).params = s.params := rfl
@[simp] theorem State.setPeriod_meter (s : State) (p : Option ResetPeriod) :
    (s.setPeriod p).meter = s.meter := rfl
@[simp] theorem State.setPeriod_tracker (s : State) (p : Option ResetPeriod) :
    (s.setPeriod p).tracker = s.tracker := rfl
@[simp] theorem State.setPeriod_cues (s : State) (p : Option ResetPeriod) :
    (s.setPeriod p).cues = s.cues := rfl
@[simp] theorem State.setPeriod_sched (s : State) (p : Option ResetPeriod) :
    (s.setPeriod p).sched = s.sched := rfl
@[simp] theorem State.setPeriod_reports (s : State) (p : Option ResetPeriod) :
    (s.setPeriod p).reports = s.reports := rfl
@[simp] theorem State.setPeriod_pages (s : State) (p : Option ResetPeriod) :
    (s.setPeriod p).pages = s.pages := rfl
@[simp] theorem State.setPeriod_screens (s : State) (p : Option ResetPeriod) :
    (s.setPeriod p).screens = s.screens := rfl
@[simp] theorem State.setPeriod_groupHold (s : State) (p : Option ResetPeriod) :
    (s.setPeriod p).groupHold = s.groupHold := rfl
@[simp] theorem State.setPeriod_change (s : State) (p : Option ResetPeriod) :
    (s.setPeriod p).change = s.change := rfl
@[simp] theorem State.setPeriod_bus (s : State) (p : Option ResetPeriod) :
    (s.setPeriod p).bus = s.bus := rfl
@[simp] theorem State.setPeriod_own (s : State) (p : Option ResetPeriod) :
    (s.setPeriod p).own = s.own := rfl
@[simp] theorem State.setPeriod_mirror (s : State) (p : Option ResetPeriod) :
    (s.setPeriod p).mirror = s.mirror := rfl
@[simp] theorem State.setPeriod_listener (s : State) (p : Option ResetPeriod) :
    (s.setPeriod p).listener = s.listener := rfl
@[simp] theorem State.setPeriod_lineTest (s : State) (p : Option ResetPeriod) :
    (s.setPeriod p).lineTest = s.lineTest := rfl
@[simp] theorem State.setPeriod_survey (s : State) (p : Option ResetPeriod) :
    (s.setPeriod p).survey = s.survey := rfl
@[simp] theorem State.setPeriod_port (s : State) (p : Option ResetPeriod) :
    (s.setPeriod p).port = s.port := rfl
@[simp] theorem State.setPeriod_resetUnit (s : State) (p : Option ResetPeriod) :
    (s.setPeriod p).resetUnit = { s.resetUnit with period := p } := rfl

/-! ### `State.spendFree` -/

@[simp] theorem State.spendFree_pending (s : State) : s.spendFree.pending = s.pending := rfl
@[simp] theorem State.spendFree_showClock (s : State) : s.spendFree.showClock = s.showClock := rfl
@[simp] theorem State.spendFree_freeCount (s : State) : s.spendFree.freeCount = s.freeCount + 1 := rfl
@[simp] theorem State.spendFree_params (s : State) : s.spendFree.params = s.params := rfl
@[simp] theorem State.spendFree_meter (s : State) : s.spendFree.meter = s.meter := rfl
@[simp] theorem State.spendFree_tracker (s : State) : s.spendFree.tracker = s.tracker := rfl
@[simp] theorem State.spendFree_cues (s : State) : s.spendFree.cues = s.cues := rfl
@[simp] theorem State.spendFree_sched (s : State) : s.spendFree.sched = s.sched := rfl
@[simp] theorem State.spendFree_reports (s : State) : s.spendFree.reports = s.reports := rfl
@[simp] theorem State.spendFree_pages (s : State) : s.spendFree.pages = s.pages := rfl
@[simp] theorem State.spendFree_screens (s : State) : s.spendFree.screens = s.screens := rfl
@[simp] theorem State.spendFree_groupHold (s : State) : s.spendFree.groupHold = s.groupHold := rfl
@[simp] theorem State.spendFree_change (s : State) : s.spendFree.change = s.change := rfl
@[simp] theorem State.spendFree_bus (s : State) : s.spendFree.bus = s.bus := rfl
@[simp] theorem State.spendFree_own (s : State) : s.spendFree.own = s.own := rfl
@[simp] theorem State.spendFree_mirror (s : State) : s.spendFree.mirror = s.mirror := rfl
@[simp] theorem State.spendFree_listener (s : State) : s.spendFree.listener = s.listener := rfl
@[simp] theorem State.spendFree_lineTest (s : State) : s.spendFree.lineTest = s.lineTest := rfl
@[simp] theorem State.spendFree_survey (s : State) : s.spendFree.survey = s.survey := rfl
@[simp] theorem State.spendFree_port (s : State) : s.spendFree.port = s.port := rfl
@[simp] theorem State.spendFree_resetUnit (s : State) : s.spendFree.resetUnit = s.resetUnit := rfl

/-! ### `State.setShowReceiver` -/

@[simp] theorem State.setShowReceiver_pending (s : State) (r : ShowReceiver) :
    (s.setShowReceiver r).pending = s.pending := rfl
@[simp] theorem State.setShowReceiver_showClock (s : State) (r : ShowReceiver) :
    (s.setShowReceiver r).showClock = s.showClock := rfl
@[simp] theorem State.setShowReceiver_freeCount (s : State) (r : ShowReceiver) :
    (s.setShowReceiver r).freeCount = s.freeCount := rfl
@[simp] theorem State.setShowReceiver_params (s : State) (r : ShowReceiver) :
    (s.setShowReceiver r).params = s.params := rfl
@[simp] theorem State.setShowReceiver_meter (s : State) (r : ShowReceiver) :
    (s.setShowReceiver r).meter = s.meter := rfl
@[simp] theorem State.setShowReceiver_tracker (s : State) (r : ShowReceiver) :
    (s.setShowReceiver r).tracker = s.tracker := rfl
@[simp] theorem State.setShowReceiver_cues (s : State) (r : ShowReceiver) :
    (s.setShowReceiver r).cues = s.cues := rfl
@[simp] theorem State.setShowReceiver_sched (s : State) (r : ShowReceiver) :
    (s.setShowReceiver r).sched = s.sched := rfl
@[simp] theorem State.setShowReceiver_reports (s : State) (r : ShowReceiver) :
    (s.setShowReceiver r).reports = s.reports := rfl
@[simp] theorem State.setShowReceiver_pages (s : State) (r : ShowReceiver) :
    (s.setShowReceiver r).pages = s.pages := rfl
@[simp] theorem State.setShowReceiver_screens (s : State) (r : ShowReceiver) :
    (s.setShowReceiver r).screens = s.screens := rfl
@[simp] theorem State.setShowReceiver_groupHold (s : State) (r : ShowReceiver) :
    (s.setShowReceiver r).groupHold = s.groupHold := rfl
@[simp] theorem State.setShowReceiver_change (s : State) (r : ShowReceiver) :
    (s.setShowReceiver r).change = s.change := rfl
@[simp] theorem State.setShowReceiver_bus (s : State) (r : ShowReceiver) :
    (s.setShowReceiver r).bus = s.bus := rfl
@[simp] theorem State.setShowReceiver_own (s : State) (r : ShowReceiver) :
    (s.setShowReceiver r).own = s.own := rfl
@[simp] theorem State.setShowReceiver_mirror (s : State) (r : ShowReceiver) :
    (s.setShowReceiver r).mirror = s.mirror := rfl
@[simp] theorem State.setShowReceiver_listener (s : State) (r : ShowReceiver) :
    (s.setShowReceiver r).listener = { s.listener with receiver := r } := rfl
@[simp] theorem State.setShowReceiver_lineTest (s : State) (r : ShowReceiver) :
    (s.setShowReceiver r).lineTest = s.lineTest := rfl
@[simp] theorem State.setShowReceiver_survey (s : State) (r : ShowReceiver) :
    (s.setShowReceiver r).survey = s.survey := rfl
@[simp] theorem State.setShowReceiver_port (s : State) (r : ShowReceiver) :
    (s.setShowReceiver r).port = s.port := rfl
@[simp] theorem State.setShowReceiver_resetUnit (s : State) (r : ShowReceiver) :
    (s.setShowReceiver r).resetUnit = s.resetUnit := rfl

/-! ### `State.raiseShowError` -/

@[simp] theorem State.raiseShowError_pending (s : State) : s.raiseShowError.pending = s.pending := rfl
@[simp] theorem State.raiseShowError_showClock (s : State) : s.raiseShowError.showClock = s.showClock := rfl
@[simp] theorem State.raiseShowError_freeCount (s : State) : s.raiseShowError.freeCount = s.freeCount := rfl
@[simp] theorem State.raiseShowError_params (s : State) : s.raiseShowError.params = s.params := rfl
@[simp] theorem State.raiseShowError_meter (s : State) : s.raiseShowError.meter = s.meter := rfl
@[simp] theorem State.raiseShowError_tracker (s : State) : s.raiseShowError.tracker = s.tracker := rfl
@[simp] theorem State.raiseShowError_cues (s : State) : s.raiseShowError.cues = s.cues := rfl
@[simp] theorem State.raiseShowError_sched (s : State) : s.raiseShowError.sched = s.sched := rfl
@[simp] theorem State.raiseShowError_reports (s : State) : s.raiseShowError.reports = s.reports := rfl
@[simp] theorem State.raiseShowError_pages (s : State) : s.raiseShowError.pages = s.pages := rfl
@[simp] theorem State.raiseShowError_screens (s : State) : s.raiseShowError.screens = s.screens := rfl
@[simp] theorem State.raiseShowError_groupHold (s : State) : s.raiseShowError.groupHold = s.groupHold := rfl
@[simp] theorem State.raiseShowError_change (s : State) : s.raiseShowError.change = s.change := rfl
@[simp] theorem State.raiseShowError_bus (s : State) : s.raiseShowError.bus = s.bus := rfl
@[simp] theorem State.raiseShowError_own (s : State) : s.raiseShowError.own = s.own := rfl
@[simp] theorem State.raiseShowError_mirror (s : State) : s.raiseShowError.mirror = s.mirror := rfl
@[simp] theorem State.raiseShowError_listener (s : State) : s.raiseShowError.listener = s.listener := rfl
@[simp] theorem State.raiseShowError_lineTest (s : State) : s.raiseShowError.lineTest = s.lineTest := rfl
@[simp] theorem State.raiseShowError_survey (s : State) : s.raiseShowError.survey = s.survey := rfl
@[simp] theorem State.raiseShowError_port (s : State) :
    s.raiseShowError.port = { s.port with showError := Sticky.raise } := rfl
@[simp] theorem State.raiseShowError_resetUnit (s : State) : s.raiseShowError.resetUnit = s.resetUnit := rfl

/-! ### `State.restoreAll` -/

@[simp] theorem State.restoreAll_pending (s : State) : s.restoreAll.pending = s.pending := rfl
@[simp] theorem State.restoreAll_showClock (s : State) : s.restoreAll.showClock = s.showClock := rfl
@[simp] theorem State.restoreAll_freeCount (s : State) : s.restoreAll.freeCount = s.freeCount := rfl
@[simp] theorem State.restoreAll_params (s : State) : s.restoreAll.params = s.params := rfl
@[simp] theorem State.restoreAll_meter (s : State) : s.restoreAll.meter = s.meter := rfl
@[simp] theorem State.restoreAll_tracker (s : State) : s.restoreAll.tracker = s.tracker := rfl
@[simp] theorem State.restoreAll_cues (s : State) : s.restoreAll.cues = s.cues := rfl
@[simp] theorem State.restoreAll_sched (s : State) : s.restoreAll.sched = s.sched := rfl
@[simp] theorem State.restoreAll_reports (s : State) : s.restoreAll.reports = s.reports := rfl
@[simp] theorem State.restoreAll_pages (s : State) : s.restoreAll.pages = s.pages := rfl
@[simp] theorem State.restoreAll_screens (s : State) :
    s.restoreAll.screens = s.screens.mapIdx (fun _ c => { c with restore := true }) := rfl
@[simp] theorem State.restoreAll_groupHold (s : State) : s.restoreAll.groupHold = s.groupHold := rfl
@[simp] theorem State.restoreAll_change (s : State) : s.restoreAll.change = s.change := rfl
@[simp] theorem State.restoreAll_bus (s : State) : s.restoreAll.bus = s.bus := rfl
@[simp] theorem State.restoreAll_own (s : State) : s.restoreAll.own = s.own := rfl
@[simp] theorem State.restoreAll_mirror (s : State) : s.restoreAll.mirror = s.mirror := rfl
@[simp] theorem State.restoreAll_listener (s : State) : s.restoreAll.listener = s.listener := rfl
@[simp] theorem State.restoreAll_lineTest (s : State) : s.restoreAll.lineTest = s.lineTest := rfl
@[simp] theorem State.restoreAll_survey (s : State) : s.restoreAll.survey = s.survey := rfl
@[simp] theorem State.restoreAll_port (s : State) : s.restoreAll.port = s.port := rfl
@[simp] theorem State.restoreAll_resetUnit (s : State) : s.restoreAll.resetUnit = s.resetUnit := rfl

/-! ### `State.clearSurveyed` -/

@[simp] theorem State.clearSurveyed_pending (s : State) : s.clearSurveyed.pending = s.pending := rfl
@[simp] theorem State.clearSurveyed_showClock (s : State) : s.clearSurveyed.showClock = s.showClock := rfl
@[simp] theorem State.clearSurveyed_freeCount (s : State) : s.clearSurveyed.freeCount = s.freeCount := rfl
@[simp] theorem State.clearSurveyed_params (s : State) : s.clearSurveyed.params = s.params := rfl
@[simp] theorem State.clearSurveyed_meter (s : State) : s.clearSurveyed.meter = s.meter := rfl
@[simp] theorem State.clearSurveyed_tracker (s : State) : s.clearSurveyed.tracker = s.tracker := rfl
@[simp] theorem State.clearSurveyed_cues (s : State) : s.clearSurveyed.cues = s.cues := rfl
@[simp] theorem State.clearSurveyed_sched (s : State) : s.clearSurveyed.sched = s.sched := rfl
@[simp] theorem State.clearSurveyed_reports (s : State) : s.clearSurveyed.reports = s.reports := rfl
@[simp] theorem State.clearSurveyed_pages (s : State) : s.clearSurveyed.pages = s.pages := rfl
@[simp] theorem State.clearSurveyed_screens (s : State) : s.clearSurveyed.screens = s.screens := rfl
@[simp] theorem State.clearSurveyed_groupHold (s : State) : s.clearSurveyed.groupHold = s.groupHold := rfl
@[simp] theorem State.clearSurveyed_change (s : State) : s.clearSurveyed.change = s.change := rfl
@[simp] theorem State.clearSurveyed_bus (s : State) :
    s.clearSurveyed.bus = { s.bus with interval := s.bus.interval.map (fun iv => { iv with surveyed := false }) } := rfl
@[simp] theorem State.clearSurveyed_own (s : State) : s.clearSurveyed.own = s.own := rfl
@[simp] theorem State.clearSurveyed_mirror (s : State) : s.clearSurveyed.mirror = s.mirror := rfl
@[simp] theorem State.clearSurveyed_listener (s : State) : s.clearSurveyed.listener = s.listener := rfl
@[simp] theorem State.clearSurveyed_lineTest (s : State) : s.clearSurveyed.lineTest = s.lineTest := rfl
@[simp] theorem State.clearSurveyed_survey (s : State) : s.clearSurveyed.survey = s.survey := rfl
@[simp] theorem State.clearSurveyed_port (s : State) : s.clearSurveyed.port = s.port := rfl
@[simp] theorem State.clearSurveyed_resetUnit (s : State) : s.clearSurveyed.resetUnit = s.resetUnit := rfl

/-! ### `State.withControllerDue` -/

@[simp] theorem State.withControllerDue_pending (s : State) (due : List Boundary) :
    (s.withControllerDue due).pending = s.pending := rfl
@[simp] theorem State.withControllerDue_showClock (s : State) (due : List Boundary) :
    (s.withControllerDue due).showClock = s.showClock := rfl
@[simp] theorem State.withControllerDue_freeCount (s : State) (due : List Boundary) :
    (s.withControllerDue due).freeCount = s.freeCount := rfl
@[simp] theorem State.withControllerDue_params (s : State) (due : List Boundary) :
    (s.withControllerDue due).params = s.params := rfl
@[simp] theorem State.withControllerDue_meter (s : State) (due : List Boundary) :
    (s.withControllerDue due).meter = s.meter := rfl
@[simp] theorem State.withControllerDue_tracker (s : State) (due : List Boundary) :
    (s.withControllerDue due).tracker = s.tracker := rfl
@[simp] theorem State.withControllerDue_cues (s : State) (due : List Boundary) :
    (s.withControllerDue due).cues = s.cues := rfl
@[simp] theorem State.withControllerDue_sched (s : State) (due : List Boundary) :
    (s.withControllerDue due).sched = s.sched := rfl
@[simp] theorem State.withControllerDue_reports (s : State) (due : List Boundary) :
    (s.withControllerDue due).reports = s.reports := rfl
@[simp] theorem State.withControllerDue_pages (s : State) (due : List Boundary) :
    (s.withControllerDue due).pages = s.pages := rfl
@[simp] theorem State.withControllerDue_screens (s : State) (due : List Boundary) :
    (s.withControllerDue due).screens = s.screens := rfl
@[simp] theorem State.withControllerDue_groupHold (s : State) (due : List Boundary) :
    (s.withControllerDue due).groupHold = s.groupHold := rfl
@[simp] theorem State.withControllerDue_change (s : State) (due : List Boundary) :
    (s.withControllerDue due).change = s.change := rfl
@[simp] theorem State.withControllerDue_bus (s : State) (due : List Boundary) :
    (s.withControllerDue due).bus = { s.bus with controllerDue := due } := rfl
@[simp] theorem State.withControllerDue_own (s : State) (due : List Boundary) :
    (s.withControllerDue due).own = s.own := rfl
@[simp] theorem State.withControllerDue_mirror (s : State) (due : List Boundary) :
    (s.withControllerDue due).mirror = s.mirror := rfl
@[simp] theorem State.withControllerDue_listener (s : State) (due : List Boundary) :
    (s.withControllerDue due).listener = s.listener := rfl
@[simp] theorem State.withControllerDue_lineTest (s : State) (due : List Boundary) :
    (s.withControllerDue due).lineTest = s.lineTest := rfl
@[simp] theorem State.withControllerDue_survey (s : State) (due : List Boundary) :
    (s.withControllerDue due).survey = s.survey := rfl
@[simp] theorem State.withControllerDue_port (s : State) (due : List Boundary) :
    (s.withControllerDue due).port = s.port := rfl
@[simp] theorem State.withControllerDue_resetUnit (s : State) (due : List Boundary) :
    (s.withControllerDue due).resetUnit = s.resetUnit := rfl

/-! ### What is read of an updated state -/

@[simp] theorem State.tick_inReset (s : State) : s.tick.inReset = s.inReset := rfl
@[simp] theorem State.updScreen_inReset (s : State) (i : Fin 4) (f : Screen → Screen) :
    (s.updScreen i f).inReset = s.inReset := rfl
@[simp] theorem State.updScreens_inReset (s : State) (f : Fin 4 → Screen → Screen) :
    (s.updScreens f).inReset = s.inReset := rfl
@[simp] theorem State.updTiles_inReset (s : State) (f : Tile → Tile) :
    (s.updTiles f).inReset = s.inReset := rfl
@[simp] theorem State.updSlot_inReset (s : State) (i : Fin 4) (f : Slot → Slot) :
    (s.updSlot i f).inReset = s.inReset := rfl
@[simp] theorem State.clearLatches_inReset (s : State) : s.clearLatches.inReset = s.inReset := rfl
@[simp] theorem State.withRequests_inReset (s : State) (rest : List Record) :
    (s.withRequests rest).inReset = s.inReset := rfl
@[simp] theorem State.withReply_inReset (s : State) (k : Byte) (c : Status) (b : ReplyBody) :
    (s.withReply k c b).inReset = s.inReset := rfl
@[simp] theorem State.dropRequest_inReset (s : State) : s.dropRequest.inReset = s.inReset := rfl
@[simp] theorem State.answer_inReset (s : State) (k : Byte) (c : Status) (b : ReplyBody) :
    (s.answer k c b).inReset = s.inReset := rfl
@[simp] theorem State.setPort_inReset (s : State) (p : ControlPort) :
    (s.setPort p).inReset = s.inReset := rfl
@[simp] theorem State.setParams_inReset (s : State) (p : Params) :
    (s.setParams p).inReset = s.inReset := rfl
@[simp] theorem State.setBlackout_inReset (s : State) (on : Bool) :
    (s.setBlackout on).inReset = s.inReset := rfl
@[simp] theorem State.spendFree_inReset (s : State) : s.spendFree.inReset = s.inReset := rfl
@[simp] theorem State.setShowReceiver_inReset (s : State) (r : ShowReceiver) :
    (s.setShowReceiver r).inReset = s.inReset := rfl
@[simp] theorem State.raiseShowError_inReset (s : State) : s.raiseShowError.inReset = s.inReset := rfl
@[simp] theorem State.restoreAll_inReset (s : State) : s.restoreAll.inReset = s.inReset := rfl
@[simp] theorem State.clearSurveyed_inReset (s : State) : s.clearSurveyed.inReset = s.inReset := rfl
@[simp] theorem State.withControllerDue_inReset (s : State) (due : List Boundary) :
    (s.withControllerDue due).inReset = s.inReset := rfl

/-! ### `State.post` (R171) -/

/-- A notice changes the control port alone. -/
theorem State.post_frame (s : State) (n : Notice) : s.post n = { s with port := (s.post n).port } := by
  unfold State.post
  split <;> rfl

@[simp] theorem State.post_pending (s : State) (n : Notice) : (s.post n).pending = s.pending := by rw [State.post_frame]
@[simp] theorem State.post_showClock (s : State) (n : Notice) : (s.post n).showClock = s.showClock := by rw [State.post_frame]
@[simp] theorem State.post_freeCount (s : State) (n : Notice) : (s.post n).freeCount = s.freeCount := by rw [State.post_frame]
@[simp] theorem State.post_params (s : State) (n : Notice) : (s.post n).params = s.params := by rw [State.post_frame]
@[simp] theorem State.post_meter (s : State) (n : Notice) : (s.post n).meter = s.meter := by rw [State.post_frame]
@[simp] theorem State.post_tracker (s : State) (n : Notice) : (s.post n).tracker = s.tracker := by rw [State.post_frame]
@[simp] theorem State.post_cues (s : State) (n : Notice) : (s.post n).cues = s.cues := by rw [State.post_frame]
@[simp] theorem State.post_sched (s : State) (n : Notice) : (s.post n).sched = s.sched := by rw [State.post_frame]
@[simp] theorem State.post_reports (s : State) (n : Notice) : (s.post n).reports = s.reports := by rw [State.post_frame]
@[simp] theorem State.post_pages (s : State) (n : Notice) : (s.post n).pages = s.pages := by rw [State.post_frame]
@[simp] theorem State.post_screens (s : State) (n : Notice) : (s.post n).screens = s.screens := by rw [State.post_frame]
@[simp] theorem State.post_groupHold (s : State) (n : Notice) : (s.post n).groupHold = s.groupHold := by rw [State.post_frame]
@[simp] theorem State.post_change (s : State) (n : Notice) : (s.post n).change = s.change := by rw [State.post_frame]
@[simp] theorem State.post_bus (s : State) (n : Notice) : (s.post n).bus = s.bus := by rw [State.post_frame]
@[simp] theorem State.post_own (s : State) (n : Notice) : (s.post n).own = s.own := by rw [State.post_frame]
@[simp] theorem State.post_mirror (s : State) (n : Notice) : (s.post n).mirror = s.mirror := by rw [State.post_frame]
@[simp] theorem State.post_listener (s : State) (n : Notice) : (s.post n).listener = s.listener := by rw [State.post_frame]
@[simp] theorem State.post_lineTest (s : State) (n : Notice) : (s.post n).lineTest = s.lineTest := by rw [State.post_frame]
@[simp] theorem State.post_survey (s : State) (n : Notice) : (s.post n).survey = s.survey := by rw [State.post_frame]
@[simp] theorem State.post_resetUnit (s : State) (n : Notice) : (s.post n).resetUnit = s.resetUnit := by rw [State.post_frame]

@[simp] theorem State.post_inReset (s : State) (n : Notice) : (s.post n).inReset = s.inReset := by
  rw [State.post_frame]; rfl

end Sys2Proof.Machine
end

