-- ==== Sys2Proof/Laws/Frames.lean ====
section
/-!
SUPPORT. What each shared operation leaves alone: `Same changed s t` says that `s` and `t` agree on every field
of the state that `changed` does not name.
-/

namespace Sys2Proof.Machine

set_option Elab.async false

/-- The fields of the state. -/
inductive Field where
  | pending | showClock | freeCount | params | meter | tracker | cues
  | sched | reports | pages | screens | groupHold | change | bus
  | own | mirror | listener | lineTest | survey | port | resetUnit
deriving DecidableEq

/-- The two states agree on every field not named. -/
structure Same (changed : List Field) (s t : State) : Prop where
  pending : Field.pending ∉ changed → t.pending = s.pending
  showClock : Field.showClock ∉ changed → t.showClock = s.showClock
  freeCount : Field.freeCount ∉ changed → t.freeCount = s.freeCount
  params : Field.params ∉ changed → t.params = s.params
  meter : Field.meter ∉ changed → t.meter = s.meter
  tracker : Field.tracker ∉ changed → t.tracker = s.tracker
  cues : Field.cues ∉ changed → t.cues = s.cues
  sched : Field.sched ∉ changed → t.sched = s.sched
  reports : Field.reports ∉ changed → t.reports = s.reports
  pages : Field.pages ∉ changed → t.pages = s.pages
  screens : Field.screens ∉ changed → t.screens = s.screens
  groupHold : Field.groupHold ∉ changed → t.groupHold = s.groupHold
  change : Field.change ∉ changed → t.change = s.change
  bus : Field.bus ∉ changed → t.bus = s.bus
  own : Field.own ∉ changed → t.own = s.own
  mirror : Field.mirror ∉ changed → t.mirror = s.mirror
  listener : Field.listener ∉ changed → t.listener = s.listener
  lineTest : Field.lineTest ∉ changed → t.lineTest = s.lineTest
  survey : Field.survey ∉ changed → t.survey = s.survey
  port : Field.port ∉ changed → t.port = s.port
  resetUnit : Field.resetUnit ∉ changed → t.resetUnit = s.resetUnit

theorem Same.refl (changed : List Field) (s : State) : Same changed s s := by
  constructor <;> intro _ <;> rfl

theorem Same.mono {a b : List Field} {s t : State} (h : Same a s t) (hab : a ⊆ b) : Same b s t :=
  ⟨fun hn => h.pending (fun hm => hn (hab hm)),
    fun hn => h.showClock (fun hm => hn (hab hm)),
    fun hn => h.freeCount (fun hm => hn (hab hm)),
    fun hn => h.params (fun hm => hn (hab hm)),
    fun hn => h.meter (fun hm => hn (hab hm)),
    fun hn => h.tracker (fun hm => hn (hab hm)),
    fun hn => h.cues (fun hm => hn (hab hm)),
    fun hn => h.sched (fun hm => hn (hab hm)),
    fun hn => h.reports (fun hm => hn (hab hm)),
    fun hn => h.pages (fun hm => hn (hab hm)),
    fun hn => h.screens (fun hm => hn (hab hm)),
    fun hn => h.groupHold (fun hm => hn (hab hm)),
    fun hn => h.change (fun hm => hn (hab hm)),
    fun hn => h.bus (fun hm => hn (hab hm)),
    fun hn => h.own (fun hm => hn (hab hm)),
    fun hn => h.mirror (fun hm => hn (hab hm)),
    fun hn => h.listener (fun hm => hn (hab hm)),
    fun hn => h.lineTest (fun hm => hn (hab hm)),
    fun hn => h.survey (fun hm => hn (hab hm)),
    fun hn => h.port (fun hm => hn (hab hm)),
    fun hn => h.resetUnit (fun hm => hn (hab hm))⟩

theorem Same.trans {changed : List Field} {s t u : State} (h1 : Same changed s t) (h2 : Same changed t u) :
    Same changed s u :=
  ⟨fun hn => (h2.pending hn).trans (h1.pending hn),
    fun hn => (h2.showClock hn).trans (h1.showClock hn),
    fun hn => (h2.freeCount hn).trans (h1.freeCount hn),
    fun hn => (h2.params hn).trans (h1.params hn),
    fun hn => (h2.meter hn).trans (h1.meter hn),
    fun hn => (h2.tracker hn).trans (h1.tracker hn),
    fun hn => (h2.cues hn).trans (h1.cues hn),
    fun hn => (h2.sched hn).trans (h1.sched hn),
    fun hn => (h2.reports hn).trans (h1.reports hn),
    fun hn => (h2.pages hn).trans (h1.pages hn),
    fun hn => (h2.screens hn).trans (h1.screens hn),
    fun hn => (h2.groupHold hn).trans (h1.groupHold hn),
    fun hn => (h2.change hn).trans (h1.change hn),
    fun hn => (h2.bus hn).trans (h1.bus hn),
    fun hn => (h2.own hn).trans (h1.own hn),
    fun hn => (h2.mirror hn).trans (h1.mirror hn),
    fun hn => (h2.listener hn).trans (h1.listener hn),
    fun hn => (h2.lineTest hn).trans (h1.lineTest hn),
    fun hn => (h2.survey hn).trans (h1.survey hn),
    fun hn => (h2.port hn).trans (h1.port hn),
    fun hn => (h2.resetUnit hn).trans (h1.resetUnit hn)⟩

/-- An operation that changes less, followed by one that changes less. -/
theorem Same.andThen {a b changed : List Field} {s t u : State} (h1 : Same a s t) (h2 : Same b t u)
    (ha : a ⊆ changed := by decide) (hb : b ⊆ changed := by decide) : Same changed s u :=
  (h1.mono ha).trans (h2.mono hb)

theorem Same.inReset {changed : List Field} {s t : State} (h : Same changed s t)
    (hn : Field.resetUnit ∉ changed := by decide) : t.inReset = s.inReset := by
  rw [State.inReset, State.inReset, h.resetUnit hn]

/-- Every state after a chain of like operations. -/
theorem Same.foldl {α : Type} {changed : List Field} (f : State → α → State)
    (hf : ∀ s a, Same changed s (f s a)) (l : List α) (s : State) : Same changed s (l.foldl f s) := by
  induction l generalizing s with
  | nil => exact Same.refl _ _
  | cons a rest ih => exact (hf s a).trans (ih (f s a))

/-! ### Notices -/

theorem State.post_same (s : State) (n : Notice) : Same [.port] s (s.post n) := by
  rw [State.post_frame]
  constructor <;> intro h <;> first | rfl | simp at h

theorem State.postAll_same (s : State) (ns : List Notice) : Same [.port] s (s.postAll ns) :=
  Same.foldl _ State.post_same ns s

/-! ### The composer -/

theorem State.spendWork_same (s : State) : Same [.screens] s s.spendWork := by
  constructor <;> intro h <;> first | rfl | simp at h

theorem State.handOver_same (s : State) (c : Change) : Same [.screens, .change, .bus] s (s.handOver c) := by
  constructor <;> intro h <;> first | rfl | simp at h

theorem State.build_same (s : State) (f : Option Firing) (c : List Take) (t : Bool) :
    Same [.screens, .change, .bus] s (s.build f c t) := by
  unfold State.build
  simp only
  split
  · exact s.spendWork_same.mono (by decide)
  · exact s.spendWork_same.andThen (State.handOver_same _ _)

theorem State.composeWork_same (s : State) : Same [.screens, .change, .bus] s s.composeWork := by
  unfold State.composeWork
  split
  · exact s.build_same _ _ _
  · exact Same.refl _ _

theorem State.buildBlackout_same (s : State) : Same [.screens, .change, .bus] s s.buildBlackout := by
  unfold State.buildBlackout
  split
  · constructor <;> intro h <;> first | rfl | simp at h
  · exact Same.refl _ _

theorem State.abandon_same (s : State) : Same [.screens, .change, .bus, .own] s s.abandon := by
  constructor <;> intro h <;> first | rfl | simp at h

/-! ### The scheduler -/

theorem State.consumeLatch_same (s : State) (c : CueRecord) : Same [.listener] s (s.consumeLatch c) := by
  unfold State.consumeLatch
  split
  · constructor <;> intro h <;> first | rfl | simp at h
  · exact Same.refl _ _

theorem State.lapse_same (s : State) (cause : LapseCause) : Same [.sched, .port] s (s.lapse cause) := by
  unfold State.lapse
  split
  · refine Same.andThen (a := [.sched]) (b := [.port]) ?_ (State.post_same _ _)
    constructor <;> intro h <;> first | rfl | simp at h
  · exact Same.refl _ _

theorem State.fire_same (s : State) (c : Cue) (t : Trigger) (n : NextPtr) :
    Same [.sched, .listener, .screens, .change, .bus] s (s.fire c t n) := by
  unfold State.fire State.buildFiring
  simp only
  refine Same.andThen (s.consumeLatch_same c.record) (b := [.sched, .screens, .change, .bus]) ?_
  refine Same.andThen (a := [.sched]) (b := [.screens, .change, .bus])
    (t := { s.consumeLatch c.record with
      sched := { (s.consumeLatch c.record).sched with next := n, follow := none } }) ?_
    (State.build_same _ _ _ _)
  constructor <;> intro h <;> first | rfl | simp at h

theorem State.firePending_same (s : State) (g : PendingGo) :
    Same [.sched, .listener, .screens, .change, .bus, .port] s (s.firePending g) := by
  unfold State.firePending
  split
  · refine Same.andThen (a := [.sched]) ?_ (State.fire_same _ _ _ _)
    constructor <;> intro h <;> first | rfl | simp at h
  · exact (s.lapse_same _).mono (by decide)

theorem State.skip_same (b : Boundary) (n : Nat) (pos : Option FullPos) (s : State) (c : Cue) :
    Same [.listener, .port] s (State.skip b n pos s c) :=
  Same.andThen (a := [.listener]) (b := [.port]) (s.consumeLatch_same c.record) (State.post_same _ _)

theorem State.evaluate_same (s : State) (b : Boundary) :
    Same [.sched, .listener, .screens, .change, .bus, .port] s (s.evaluate b) := by
  unfold State.evaluate
  simp only
  split
  · exact Same.refl _ _
  · split
    · exact Same.andThen (Same.foldl _ (State.skip_same b _ _) _ s) (State.fire_same _ _ _ _)
    · exact Same.refl _ _

theorem State.afterRaise_same (s : State) (b : Boundary) :
    Same [.sched, .listener, .screens, .change, .bus, .port] s (s.afterRaise b) := by
  unfold State.afterRaise
  split
  · exact Same.refl _ _
  · split
    · exact Same.refl _ _
    · exact s.firePending_same _
    · exact s.evaluate_same b
    · exact Same.refl _ _

theorem State.schedulerHandles_same (s : State) (b : Boundary) :
    Same [.sched, .listener, .screens, .change, .bus, .port] s (s.schedulerHandles b) := by
  unfold State.schedulerHandles
  split
  · exact Same.refl _ _
  · refine Same.andThen (a := [.sched]) ?_ (State.afterRaise_same _ b)
    constructor <;> intro h <;> first | rfl | simp at h

theorem State.takeReport_same (s : State) (r : CommitReport) : Same [.sched, .port] s (s.takeReport r) := by
  refine Same.andThen (a := [.sched]) ?_ (State.post_same _ _)
  constructor <;> intro h <;> first | rfl | simp at h

theorem State.adoptCue_same (s : State) (n : Nat) :
    Same [.sched, .listener, .screens, .change, .bus, .port] s (s.adoptCue n) := by
  unfold State.adoptCue
  split
  · exact Same.refl _ _
  · split
    · exact Same.refl _ _
    · exact Same.andThen (State.fire_same _ _ _ _) (State.lapse_same _ _)

/-! ### The line test and the survey -/

theorem State.abortTest_same (s : State) (cause : TestAbort) : Same [.lineTest, .port] s (s.abortTest cause) := by
  unfold State.abortTest
  split
  · exact Same.refl _ _
  · refine Same.andThen (a := [.lineTest]) (b := [.port])
      (t := { s with lineTest := { s.lineTest with
        started := none, reflections := [], last := some (s.testResult (.aborted cause)) } }) ?_ ?_
    · constructor <;> intro h <;> first | rfl | simp at h
    · cases cause
      · exact State.post_same _ _
      · exact State.post_same _ _
      · exact State.post_same _ _
      · exact Same.refl _ _

theorem State.completeTest_same (s : State) : Same [.lineTest, .port] s s.completeTest := by
  refine Same.andThen (a := [.lineTest]) ?_ (State.post_same _ _)
  constructor <;> intro h <;> first | rfl | simp at h

theorem State.endSurvey_same (s : State) (a : Option SurveyAbort) : Same [.survey, .port] s (s.endSurvey a) := by
  refine Same.andThen (a := [.survey]) ?_ (State.post_same _ _)
  constructor <;> intro h <;> first | rfl | simp at h

theorem State.abortSurvey_same (s : State) (a : SurveyAbort) :
    Same [.bus, .survey, .port] s (s.abortSurvey a) := by
  unfold State.abortSurvey
  split
  · refine Same.andThen (a := [.bus]) ?_ (State.endSurvey_same _ _)
    constructor <;> intro h <;> first | rfl | simp at h
  · exact Same.refl _ _

/-! ### Marks and commits -/

theorem State.putMark_same (s : State) (b : Boundary) (fl : MarkFlags) (g : Four (Option MarkInstr)) :
    Same [.change, .bus] s (s.putMark b fl g) := by
  constructor <;> intro h <;> first | rfl | simp at h

theorem State.plainMark_same (s : State) (b : Boundary) (fl : MarkFlags) :
    Same [.change, .bus] s (s.plainMark b fl) := s.putMark_same b fl _

theorem State.commitChange_same (s : State) (b : Boundary) (c : Change) (onBus : Bool) :
    Same [.screens, .change, .own, .bus, .reports] s (s.commitChange b c onBus) := by
  constructor <;> intro h <;> first | rfl | simp at h

theorem State.afterCommit_same (s : State) (c : Change) : Same [.screens, .change, .bus] s (s.afterCommit c) := by
  refine Same.andThen (a := [.screens]) ?_ (State.composeWork_same _)
  constructor <;> intro h <;> first | rfl | simp at h

theorem State.commitMark_same (s : State) (b : Boundary) (fl : MarkFlags) (c : Change) :
    Same [.screens, .change, .own, .bus, .reports] s (s.commitMark b fl c) :=
  Same.andThen (s.commitChange_same b c true)
    (Same.andThen (changed := [.screens, .change, .bus]) (State.putMark_same _ b fl _) (State.afterCommit_same _ c))

theorem State.commitNotional_same (s : State) (b : Boundary) :
    Same [.screens, .change, .own, .bus, .reports] s (s.commitNotional b) := by
  unfold State.commitNotional
  split
  · exact Same.andThen (State.commitChange_same _ _ _ _) (State.afterCommit_same _ _)
  · exact Same.refl _ _

theorem State.forceOut_same (s : State) (b : Boundary) (c : Change) : Same [.bus, .port] s (s.forceOut b c) := by
  refine Same.andThen (a := [.bus]) ?_ (State.postAll_same _ _)
  constructor <;> intro h <;> first | rfl | simp at h

theorem State.testedMark_same (s : State) (b : Boundary) (fl : MarkFlags) (rises : Bool) :
    Same [.screens, .change, .own, .bus, .reports, .port] s (s.testedMark b fl rises) := by
  unfold State.testedMark
  split
  · exact (s.plainMark_same b fl).mono (by decide)
  · split
    · exact (s.commitMark_same b fl _).mono (by decide)
    · split
      · simp only
        split
        · exact Same.andThen (s.forceOut_same b _) (State.commitMark_same _ b fl _)
        · refine Same.andThen (a := [.change]) ?_ (State.plainMark_same _ b fl)
          constructor <;> intro h <;> first | rfl | simp at h
      · exact (s.plainMark_same b fl).mono (by decide)

theorem State.markUncounted_same (s : State) (b : Boundary) (fl : MarkFlags) (t : Bool) :
    Same [.screens, .change, .own, .bus, .reports, .port] s (s.markUncounted b fl t) := by
  unfold State.markUncounted
  split
  · split
    · exact (s.plainMark_same b fl).mono (by decide)
    · exact s.testedMark_same b fl false
  · exact (s.plainMark_same b fl).mono (by decide)

theorem State.setLink_same (s : State) (l : LinkState) (n : SweepNo) (c : LinkCause) :
    Same [.bus, .port] s (s.setLink l n c) := by
  unfold State.setLink
  split
  · exact Same.refl _ _
  · refine Same.andThen (a := [.bus]) ?_ (State.post_same _ _)
    constructor <;> intro h <;> first | rfl | simp at h

theorem State.stopDriving_same (s : State) (b : Boundary) :
    Same [.screens, .change, .own, .bus, .reports, .port] s (s.stopDriving b) := by
  refine Same.andThen (s.commitNotional_same b) (b := [.own, .bus, .port]) ?_
  refine Same.andThen (a := [.own, .bus]) ?_ (State.post_same _ _)
  constructor <;> intro h <;> first | rfl | simp at h

theorem State.markFor_same (s : State) (b : Boundary) (m : MarkCase) :
    Same [.screens, .change, .own, .bus, .reports, .port, .survey] s (s.markFor b m) := by
  cases m <;> simp only [State.markFor]
  · exact Same.refl _ _
  · exact (s.commitNotional_same b).mono (by decide)
  · exact (s.stopDriving_same b).mono (by decide)
  · refine Same.andThen (a := [.bus]) ?_ (State.testedMark_same _ b _ true)
    constructor <;> intro h <;> first | rfl | simp at h
  · refine Same.andThen (a := [.bus]) ?_ (State.testedMark_same _ b _ true)
    constructor <;> intro h <;> first | rfl | simp at h
  · refine Same.andThen (a := [.bus]) ?_ (Same.andThen (changed := [.change, .bus, .port, .survey])
      (State.setLink_same _ _ _ _) (Same.andThen (changed := [.change, .bus, .port, .survey])
        (State.abortSurvey_same _ _) (State.plainMark_same _ b _)))
    constructor <;> intro h <;> first | rfl | simp at h
  · constructor <;> intro h <;> first | rfl | simp at h
  · exact (s.plainMark_same b _).mono (by decide)
  · exact (s.markUncounted_same b _ _).mono (by decide)
  · refine Same.andThen (a := [.bus]) ?_ (Same.andThen (changed := [.change, .bus, .port])
      (State.setLink_same _ _ _ _) (State.plainMark_same _ b _))
    constructor <;> intro h <;> first | rfl | simp at h
  · refine Same.andThen (a := [.bus]) ?_ (State.markUncounted_same _ b _ _)
    constructor <;> intro h <;> first | rfl | simp at h
  · exact Same.andThen (s.setLink_same _ _ _) (State.markUncounted_same _ b _ _)

theorem State.clearPartial_same (s : State) (which : List (Fin 4)) :
    Same [.screens, .change, .bus] s (s.clearPartial which) := by
  refine Same.andThen (a := [.screens]) ?_ (State.composeWork_same _)
  constructor <;> intro h <;> first | rfl | simp at h

theorem State.beforeMark_same (s : State) : Same [.freeCount, .screens, .change, .bus] s s.beforeMark := by
  have hf : Same [.freeCount] s s.spendFree := by constructor <;> intro h <;> first | rfl | simp at h
  unfold State.beforeMark
  split
  · exact Same.refl _ _
  · split
    · exact hf.andThen (State.clearPartial_same _ _)
    · exact hf.mono (by decide)

theorem State.afterMark_same (found : List (Fin 4)) (s : State) :
    Same [.screens, .change, .bus] s (State.afterMark found s) := by
  unfold State.afterMark
  simp only
  split
  · exact Same.refl _ _
  · exact s.clearPartial_same _

theorem State.controllerHandles_same (s : State) (b : Boundary) :
    Same [.freeCount, .screens, .change, .own, .bus, .reports, .port, .survey] s (s.controllerHandles b) :=
  Same.andThen s.beforeMark_same
    (Same.andThen (changed := [.screens, .change, .own, .bus, .reports, .port, .survey])
      (State.markFor_same _ b _) (State.afterMark_same _ _))

theorem State.controllerNext_same (s : State) :
    Same [.freeCount, .screens, .change, .own, .bus, .reports, .port, .survey] s s.controllerNext := by
  unfold State.controllerNext
  split
  · exact Same.refl _ _
  · refine Same.andThen (a := [.bus]) ?_ (State.controllerHandles_same _ _)
    constructor <;> intro h <;> first | rfl | simp at h

theorem State.controllerIf_same (s : State) (m : MarkCase) :
    Same [.freeCount, .screens, .change, .own, .bus, .reports, .port, .survey] s (s.controllerIf m) := by
  unfold State.controllerIf
  split
  · exact s.controllerNext_same
  · exact Same.refl _ _

/-! ### Slots and answers -/

theorem State.giveSlot_same (s : State) (iv : Interval) : Same [.bus, .survey] s (s.giveSlot iv) := by
  unfold State.giveSlot
  simp only
  split <;> split
  case' h_1 kind a _ => cases kind
  all_goals (constructor <;> intro h <;> first | rfl | simp at h)

theorem State.slotStarts_same (s : State) : Same [.bus, .survey] s s.slotStarts := by
  unfold State.slotStarts
  split
  · exact Same.refl _ _
  · split
    · split
      · constructor <;> intro h <;> first | rfl | simp at h
      · split
        · exact Same.refl _ _
        · exact s.giveSlot_same _
    · exact Same.refl _ _

theorem State.acknowledge_same (s : State) (w : Window) : Same [.change, .bus] s (s.acknowledge w) := by
  unfold State.acknowledge
  split <;> (constructor <;> intro h <;> first | rfl | simp at h)

theorem State.tileReturns_same (s : State) (w : Window) (a : PollAnswer) :
    Same [.bus, .port] s (s.tileReturns w a) := by
  unfold State.tileReturns
  split
  · refine Same.andThen (a := [.bus]) ?_ (State.post_same _ _)
    constructor <;> intro h <;> first | rfl | simp at h
  · exact Same.refl _ _

theorem State.pollAnswered_same (s : State) (w : Window) (a : PollAnswer) :
    Same [.bus, .survey, .port] s (s.pollAnswered w a) := by
  unfold State.pollAnswered
  split
  · refine Same.andThen (a := [.bus]) ?_ (State.tileReturns_same _ w a)
    constructor <;> intro h <;> first | rfl | simp at h
  · refine Same.andThen (a := [.bus, .survey]) ?_ (State.tileReturns_same _ w a)
    constructor <;> intro h <;> first | rfl | simp at h
  all_goals exact Same.refl _ _

theorem State.completeSurvey_same (s : State) : Same [.survey, .port] s s.completeSurvey := by
  unfold State.completeSurvey
  split
  · exact s.endSurvey_same _
  · exact Same.refl _ _

theorem State.closeWindow_same (s : State) (w : Window) : Same [.bus, .survey, .port] s (s.closeWindow w) := by
  unfold State.closeWindow
  simp only
  split
  · split <;> (constructor <;> intro h <;> first | rfl | simp at h)
  · split
    · refine Same.andThen (a := [.bus]) ?_ (State.completeSurvey_same _)
      constructor <;> intro h <;> first | rfl | simp at h
    · refine Same.andThen (a := [.bus, .survey]) ?_ (State.completeSurvey_same _)
      constructor <;> intro h <;> first | rfl | simp at h
  all_goals (constructor <;> intro h <;> first | rfl | simp at h)

/-! ### Ownership -/

theorem State.countSilence_same (s : State) : Same [.mirror, .port] s s.countSilence := by
  unfold State.countSilence
  simp only
  split
  · refine Same.andThen (a := [.mirror]) ?_ (State.post_same _ _)
    constructor <;> intro h <;> first | rfl | simp at h
  · constructor <;> intro h <;> first | rfl | simp at h

theorem State.testDivergence_same (s : State) (b : Boundary) : Same [.mirror, .port] s (s.testDivergence b) := by
  unfold State.testDivergence
  split
  · constructor <;> intro h <;> first | rfl | simp at h
  · simp only
    split
    · refine Same.andThen (a := [.mirror]) ?_ (State.post_same _ _)
      constructor <;> intro h <;> first | rfl | simp at h
    · constructor <;> intro h <;> first | rfl | simp at h

theorem State.offerAdoption_same (s : State) :
    Same [.sched, .listener, .screens, .change, .bus, .port] s s.offerAdoption := by
  unfold State.offerAdoption
  split
  · split
    · exact s.adoptCue_same _
    · exact Same.refl _ _
  · exact Same.refl _ _

theorem State.takeover_same (s : State) : Same [.screens, .change, .bus, .own] s s.takeover := by
  unfold State.takeover
  simp only
  split
  · refine Same.andThen (a := [.screens, .change, .own]) ?_ (State.build_same _ _ _ _)
    constructor <;> intro h <;> first | rfl | simp at h
  · refine Same.andThen (a := [.screens, .change, .own]) ?_ (State.build_same _ _ _ _)
    constructor <;> intro h <;> first | rfl | simp at h

theorem State.takeLink_same (s : State) (b : Boundary) : Same [.bus, .port] s (s.takeLink b) := by
  unfold State.takeLink
  split
  · exact s.setLink_same _ _ _
  · exact Same.refl _ _

theorem State.firstMark_same (s : State) (b : Boundary) :
    Same [.screens, .change, .own, .bus, .reports, .port] s (s.firstMark b) := by
  have hw : ∀ u : State, Same [.bus] u { u with bus := { u.bus with sinceWake := 0 } } := by
    intro u
    constructor <;> intro h <;> first | rfl | simp at h
  unfold State.firstMark
  simp only
  split
  · exact s.markUncounted_same b _ _
  · exact (hw s).andThen (State.markUncounted_same _ b _ _)
  · split
    · split
      · exact (hw s).andThen (Same.andThen (changed := [.change, .bus, .port]) (State.setLink_same _ _ _ _)
          (State.plainMark_same _ b _))
      · exact s.markUncounted_same b _ _
    · split
      · exact (hw s).andThen (Same.andThen (changed := [.change, .bus, .port]) (State.setLink_same _ _ _ _)
          (State.plainMark_same _ b _))
      · exact s.markUncounted_same b _ _

theorem State.driven_same (s : State) (b : Boundary) : Same [.own, .mirror, .bus, .port] s (s.driven b) := by
  refine Same.andThen (a := [.own, .mirror, .bus]) ?_ (State.post_same _ _)
  constructor <;> intro h <;> first | rfl | simp at h

theorem State.firstBoundary_same (s : State) (b : Boundary) :
    Same [.freeCount, .screens, .change, .own, .bus, .reports, .port] s (s.firstBoundary b) :=
  Same.andThen s.beforeMark_same
    (Same.andThen (changed := [.screens, .change, .own, .bus, .reports, .port])
      (State.firstMark_same _ b) (State.afterMark_same _ _))

theorem State.enterDriving_same (s : State) (b : Boundary) :
    Same [.freeCount, .screens, .change, .own, .bus, .reports, .port, .mirror, .lineTest] s (s.enterDriving b) := by
  have ho : ∀ u : State, Same [.own] u { u with own := { u.own with drive := true, state := .driving } } := by
    intro u
    constructor <;> intro h <;> first | rfl | simp at h
  have ht : ∀ u : State, Same [.screens, .change, .bus, .own] u (if u.own.takeover then u.takeover else u) := by
    intro u
    split
    · exact u.takeover_same
    · exact Same.refl _ _
  exact Same.andThen (s.abortTest_same .driveStart)
    (Same.andThen (changed := [.freeCount, .screens, .change, .own, .bus, .reports, .port, .mirror]) (ho _)
      (Same.andThen (changed := [.freeCount, .screens, .change, .own, .bus, .reports, .port, .mirror]) (State.takeLink_same _ b)
        (Same.andThen (changed := [.freeCount, .screens, .change, .own, .bus, .reports, .port, .mirror]) (ht _)
          (Same.andThen (changed := [.freeCount, .screens, .change, .own, .bus, .reports, .port, .mirror])
            (State.firstBoundary_same _ b) (State.driven_same _ b)))))

theorem State.grantedBoundary_same (s : State) (b : Boundary) :
    Same [.freeCount, .screens, .change, .own, .bus, .reports, .port, .mirror, .lineTest] s (s.grantedBoundary b) := by
  unfold State.grantedBoundary
  split
  · simp only
    split
    · refine Same.andThen (a := [.own]) ?_ (State.post_same _ _)
      constructor <;> intro h <;> first | rfl | simp at h
    · constructor <;> intro h <;> first | rfl | simp at h
  · split
    · exact s.enterDriving_same b
    · exact Same.refl _ _

theorem State.compareMirror_same (s : State) (b : Boundary) :
    Same [.sched, .listener, .screens, .change, .bus, .port, .mirror] s (s.compareMirror b) := by
  unfold State.compareMirror
  split
  · exact Same.andThen (s.testDivergence_same b) (State.offerAdoption_same _)
  · exact Same.refl _ _

theorem State.silenceAt_same (s : State) (b : Boundary) : Same [.mirror, .port] s (s.silenceAt b) := by
  unfold State.silenceAt
  split
  · exact Same.refl _ _
  · exact s.countSilence_same

theorem State.ownershipHandles_same (s : State) (b : Boundary) :
    Same [.freeCount, .screens, .change, .own, .bus, .reports, .port, .mirror, .lineTest, .sched, .listener]
      s (s.ownershipHandles b) := by
  unfold State.ownershipHandles
  split
  · exact Same.refl _ _
  · split
    · exact Same.andThen (s.silenceAt_same b) (State.compareMirror_same _ b)
    · exact Same.andThen (s.silenceAt_same b) (State.grantedBoundary_same _ b)
    all_goals exact Same.refl _ _

theorem State.ownershipNext_same (s : State) :
    Same [.freeCount, .screens, .change, .own, .bus, .reports, .port, .mirror, .lineTest, .sched, .listener]
      s s.ownershipNext := by
  unfold State.ownershipNext
  split
  · exact Same.refl _ _
  · refine Same.andThen (a := [.bus]) ?_ (State.ownershipHandles_same _ _)
    constructor <;> intro h <;> first | rfl | simp at h

theorem State.lockTimer_same (s : State) (f : SweepFrame) : Same [.bus] s (s.lockTimer f) := by
  unfold State.lockTimer
  split <;> (constructor <;> intro h <;> first | rfl | simp at h)

theorem State.followPosition_same (s : State) (f : SweepFrame) :
    Same [.tracker, .own, .port] s (s.followPosition f) := by
  have hc : Same [.own] s s.clearFollowing := by constructor <;> intro h <;> first | rfl | simp at h
  unfold State.followPosition
  split
  · exact Same.refl _ _
  · split
    · split
      · unfold State.adoptPosition
        split
        · exact hc.mono (by decide)
        · simp only
          split
          · constructor <;> intro h <;> first | rfl | simp at h
          · refine Same.andThen (a := [.tracker, .own]) ?_ (State.post_same _ _)
            constructor <;> intro h <;> first | rfl | simp at h
      · exact hc.mono (by decide)
    · exact hc.mono (by decide)

theorem State.hearPeer_same (s : State) (f : SweepFrame) :
    Same [.mirror, .bus, .tracker, .own, .port] s (s.hearPeer f) := by
  refine Same.andThen (a := [.mirror]) ?_ (Same.andThen (changed := [.bus, .tracker, .own, .port])
    (State.lockTimer_same _ f) (State.followPosition_same _ f))
  constructor <;> intro h <;> first | rfl | simp at h

theorem State.grantRises_same (s : State) : Same [.own, .mirror, .port] s s.grantRises := by
  unfold State.grantRises
  simp only
  split
  · constructor <;> intro h <;> first | rfl | simp at h
  · split
    · refine Same.andThen (a := [.own, .mirror]) ?_ (State.post_same _ _)
      constructor <;> intro h <;> first | rfl | simp at h
    · split
      · constructor <;> intro h <;> first | rfl | simp at h
      · refine Same.andThen (a := [.own]) ?_ (State.post_same _ _)
        constructor <;> intro h <;> first | rfl | simp at h
    all_goals (constructor <;> intro h <;> first | rfl | simp at h)

theorem State.grantFalls_same (s : State) : Same [.own, .port, .lineTest, .bus, .survey] s s.grantFalls := by
  unfold State.grantFalls
  simp only
  split
  · constructor <;> intro h <;> first | rfl | simp at h
  · split
    · refine Same.andThen (a := [.own]) ?_ (Same.andThen (changed := [.port, .lineTest])
        (State.post_same _ _) (State.abortTest_same _ _))
      constructor <;> intro h <;> first | rfl | simp at h
    · refine Same.andThen (a := [.own]) ?_ (Same.andThen (changed := [.bus, .survey, .port])
        (State.post_same _ _) (State.abortSurvey_same _ _))
      constructor <;> intro h <;> first | rfl | simp at h
    all_goals (constructor <;> intro h <;> first | rfl | simp at h)

theorem State.peerDriveRises_same (s : State) : Same [.own, .port, .lineTest] s s.peerDriveRises := by
  have hd : Same [.own] s { s with own := { s.own with peerDrive := true } } := by
    constructor <;> intro h <;> first | rfl | simp at h
  unfold State.peerDriveRises
  simp only
  split
  · exact hd.mono (by decide)
  · split
    · have ht := hd.andThen (changed := [.own, .port, .lineTest]) (b := [.lineTest, .port])
        (State.abortTest_same _ .peerDrive)
      refine ht.trans (Same.andThen (a := [.own]) (b := [.port]) ?_ (State.post_same _ _))
      constructor <;> intro h <;> first | rfl | simp at h
    · exact hd.andThen (b := [.lineTest, .port]) (State.abortTest_same _ _)

end Sys2Proof.Machine
end

