-- ==== Sys2Proof/Laws/Requests.lean ====
section
/-!
SUPPORT. What taking a request does: the lemmas that statements about requests cite instead of unfolding
`State.take`.
-/

namespace Sys2Proof.Machine

theorem Waiting.takes {s : State} {k : Byte} {body : List Byte} {rest : List Record}
    (h : Waiting s k body rest) : s.takesRequests = true := by
  obtain ⟨_, hp, hr, ht⟩ := h
  simp only [State.takesRequests, State.inReset, hp, hr, Bool.and_eq_true, Bool.not_eq_true',
    Option.isSome_none, List.any_eq_false, Bool.not_eq_true, and_self, true_and]
  exact ht

theorem Waiting.dropped {s : State} {k : Byte} {body : List Byte} {rest : List Record}
    (h : Waiting s k body rest) : s.dropRequest = s.withRequests rest := by
  simp [State.dropRequest, State.withRequests, h.1]

/-- A request whose body has its form is handled whole and answered (R165). -/
theorem Waiting.take {s : State} {k : Byte} {body : List Byte} {rest : List Record}
    (h : Waiting s k body rest) (form : List Byte → BodyForm)
    (handle : State → State × Status × ReplyBody) (hf : form body = .good) :
    s.take k form handle =
      (handle (s.withRequests rest)).1.answer k (handle (s.withRequests rest)).2.1
        (handle (s.withRequests rest)).2.2 := by
  simp only [State.take, h.1, h.takes, beq_self_eq_true, Bool.and_self, if_true, hf, h.dropped]

/-- A request whose body does not have its form is answered BAD_ARGUMENT (R164). -/
theorem Waiting.take_bad {s : State} {k : Byte} {body : List Byte} {rest : List Record}
    (h : Waiting s k body rest) (form : List Byte → BodyForm)
    (handle : State → State × Status × ReplyBody) (hf : form body = .bad) :
    s.take k form handle = (s.withRequests rest).answer k .badArgument .empty := by
  simp only [State.take, h.1, h.takes, beq_self_eq_true, Bool.and_self, if_true, hf, h.dropped]

/-- OK and ADJUSTED carry the reply body. -/
theorem State.answer_ok (s : State) (k : Byte) (b : ReplyBody) : s.answer k .ok b = s.withReply k .ok b := rfl

theorem State.answer_adjusted (s : State) (k : Byte) (b : ReplyBody) :
    s.answer k .adjusted b = s.withReply k .adjusted b := rfl

/-- Every other code carries no body. -/
theorem State.answer_empty (s : State) (k : Byte) (code : Status) :
    s.answer k code .empty = s.withReply k code .empty := by
  cases code <;> rfl


end Sys2Proof.Machine
end

