-- ==== Sys2Proof/Laws/Stores.lean ====
section
/-!
SUPPORT. The two sorted stores, the cue list and the page store: what an insertion leaves, and how a lookup
meets it.
-/

namespace Sys2Proof.Machine

/-! ### Insertion by a key -/

/-- In a list sorted by a key, what lies below a smaller head is nothing, and above it everything. -/
theorem filter_below_eq_nil {α : Type} (key : α → Nat) (n : Nat) (l : List α)
    (h : ∀ d ∈ l, n < key d) : l.filter (fun d => key d < n) = [] := by
  rw [List.filter_eq_nil_iff]
  intro d hd
  have := h d hd
  simp only [decide_eq_true_eq]
  omega

theorem filter_above_eq_self {α : Type} (key : α → Nat) (n : Nat) (l : List α)
    (h : ∀ d ∈ l, n < key d) : l.filter (fun d => n < key d) = l := by
  rw [List.filter_eq_self]
  intro d hd
  simpa using h d hd

/-- R27: a cue put into a list in ascending order stands between the cues below and above its number, in place
of any cue of that number. -/
theorem insertCue_eq (c : Cue) (l : List Cue)
    (h : l.Pairwise (fun a b => a.record.number < b.record.number)) :
    insertCue c l = l.filter (fun d => d.record.number < c.record.number) ++ c
      :: l.filter (fun d => c.record.number < d.record.number) := by
  induction l with
  | nil => rfl
  | cons d rest ih =>
    obtain ⟨hd, hrest⟩ := List.pairwise_cons.mp h
    unfold insertCue
    split
    · rename_i hlt
      have hall : ∀ e ∈ d :: rest, c.record.number < e.record.number := by
        intro e he
        rcases List.mem_cons.mp he with rfl | he
        · exact hlt
        · have := hd e he; omega
      rw [filter_below_eq_nil (fun e : Cue => e.record.number) _ _ hall,
        filter_above_eq_self (fun e : Cue => e.record.number) _ _ hall, List.nil_append]
    · split
      · rename_i hne heq
        have hall : ∀ e ∈ rest, c.record.number < e.record.number := by
          intro e he
          have := hd e he; omega
        rw [List.filter_cons_of_neg (by simp; omega), List.filter_cons_of_neg (by simp; omega),
          filter_below_eq_nil (fun e : Cue => e.record.number) _ _ hall,
          filter_above_eq_self (fun e : Cue => e.record.number) _ _ hall, List.nil_append]
      · rename_i hne heq
        rw [List.filter_cons_of_pos (by simp; omega), List.filter_cons_of_neg (by simp; omega), ih hrest,
          List.cons_append]

/-- R65: a page put into a store in ascending order of id stands between the pages below and above its id, in
place of any page of that id. -/
theorem insertPage_eq (p : Page) (l : List Page) (h : l.Pairwise (fun a b => a.id < b.id)) :
    insertPage p l = l.filter (fun q => q.id < p.id) ++ p :: l.filter (fun q => p.id < q.id) := by
  induction l with
  | nil => rfl
  | cons d rest ih =>
    obtain ⟨hd, hrest⟩ := List.pairwise_cons.mp h
    unfold insertPage
    split
    · rename_i hlt
      have hall : ∀ e ∈ d :: rest, p.id < e.id := by
        intro e he
        rcases List.mem_cons.mp he with rfl | he
        · exact hlt
        · have := hd e he; omega
      rw [filter_below_eq_nil (fun e : Page => e.id) _ _ hall,
        filter_above_eq_self (fun e : Page => e.id) _ _ hall, List.nil_append]
    · split
      · rename_i hne heq
        have hall : ∀ e ∈ rest, p.id < e.id := by
          intro e he
          have := hd e he; omega
        rw [List.filter_cons_of_neg (by simp; omega), List.filter_cons_of_neg (by simp; omega),
          filter_below_eq_nil (fun e : Page => e.id) _ _ hall,
          filter_above_eq_self (fun e : Page => e.id) _ _ hall, List.nil_append]
      · rename_i hne heq
        rw [List.filter_cons_of_pos (by simp; omega), List.filter_cons_of_neg (by simp; omega), ih hrest,
          List.cons_append]

/-- The parts below and above a key, with something of that key between them, are in ascending order. -/
theorem pairwise_around {α : Type} (key : α → Nat) (c : α) (l : List α)
    (h : l.Pairwise (fun a b => key a < key b)) :
    (l.filter (fun d => key d < key c) ++ c :: l.filter (fun d => key c < key d)).Pairwise
      (fun a b => key a < key b) := by
  rw [List.pairwise_append]
  refine ⟨h.filter _, List.pairwise_cons.mpr ⟨?_, h.filter _⟩, ?_⟩
  · intro d hd
    simpa using (List.mem_filter.mp hd).2
  · intro a ha b hb
    have ha' : key a < key c := by simpa using (List.mem_filter.mp ha).2
    rcases List.mem_cons.mp hb with rfl | hb
    · exact ha'
    · have hb' : key c < key b := by simpa using (List.mem_filter.mp hb).2
      omega

/-- R27: an insertion keeps the ascending order. -/
theorem insertCue_sorted (c : Cue) (l : List Cue)
    (h : l.Pairwise (fun a b => a.record.number < b.record.number)) :
    (insertCue c l).Pairwise (fun a b => a.record.number < b.record.number) := by
  rw [insertCue_eq c l h]
  exact pairwise_around (fun d : Cue => d.record.number) c l h

/-- R65: an insertion keeps the ascending order. -/
theorem insertPage_sorted (p : Page) (l : List Page) (h : l.Pairwise (fun a b => a.id < b.id)) :
    (insertPage p l).Pairwise (fun a b => a.id < b.id) := by
  rw [insertPage_eq p l h]
  exact pairwise_around (fun q : Page => q.id) p l h

/-- An insertion adds at most one cue. -/
theorem insertCue_length_le (c : Cue) (l : List Cue) : (insertCue c l).length ≤ l.length + 1 := by
  induction l with
  | nil => simp [insertCue]
  | cons d rest ih =>
    unfold insertCue
    split
    · simp
    · split <;> simp only [List.length_cons] <;> omega

/-- A cue of a number the list holds is replaced: the count stays. -/
theorem insertCue_length_of_mem (c : Cue) (l : List Cue)
    (h : l.Pairwise (fun a b => a.record.number < b.record.number))
    (hm : ∃ d ∈ l, d.record.number = c.record.number) : (insertCue c l).length = l.length := by
  induction l with
  | nil => simp at hm
  | cons d rest ih =>
    obtain ⟨hd, hrest⟩ := List.pairwise_cons.mp h
    unfold insertCue
    split
    · rename_i hlt
      obtain ⟨e, he, heq⟩ := hm
      rcases List.mem_cons.mp he with rfl | he
      · omega
      · have := hd e he; omega
    · split
      · simp
      · rename_i hne heq
        have : ∃ d ∈ rest, d.record.number = c.record.number := by
          obtain ⟨e, he, hen⟩ := hm
          rcases List.mem_cons.mp he with rfl | he
          · omega
          · exact ⟨e, he, hen⟩
        simp [ih hrest this]

/-- A cue of a number the list does not hold is added: the count rises by one. -/
theorem insertCue_length_of_not_mem (c : Cue) (l : List Cue)
    (hm : ∀ d ∈ l, d.record.number ≠ c.record.number) : (insertCue c l).length = l.length + 1 := by
  induction l with
  | nil => rfl
  | cons d rest ih =>
    unfold insertCue
    have hd := hm d (List.mem_cons_self ..)
    split
    · simp
    · split
      · omega
      · simp [ih (fun e he => hm e (List.mem_cons_of_mem _ he))]

/-! ### Lookup -/

/-- A lookup by number finds a cue exactly when the list holds one of that number. -/
theorem cue?_isSome (s : State) (n : Nat) :
    (s.cue? n).isSome = true ↔ ∃ c ∈ s.cues, c.record.number = n := by
  simp [State.cue?, List.find?_isSome]

theorem cue?_isNone (s : State) (n : Nat) :
    (s.cue? n).isNone = true ↔ ¬ ∃ c ∈ s.cues, c.record.number = n := by
  rw [← cue?_isSome]; cases s.cue? n <;> simp

/-- What a lookup finds is in the list and has the number. -/
theorem cue?_mem {s : State} {n : Nat} {c : Cue} (h : s.cue? n = some c) :
    c ∈ s.cues ∧ c.record.number = n := by
  have h1 := List.mem_of_find?_eq_some h
  have h2 := List.find?_some h
  exact ⟨h1, by simpa using h2⟩

/-- In a list in ascending order a lookup by a member's number finds that member. -/
theorem find?_of_sorted {l : List Cue} (h : l.Pairwise (fun a b => a.record.number < b.record.number))
    {c : Cue} (hc : c ∈ l) : l.find? (fun d => d.record.number == c.record.number) = some c := by
  induction l with
  | nil => simp at hc
  | cons d rest ih =>
    obtain ⟨hd, hrest⟩ := List.pairwise_cons.mp h
    rcases List.mem_cons.mp hc with rfl | hc
    · simp
    · have := hd c hc
      rw [List.find?_cons_of_neg (by simp; omega)]
      exact ih hrest hc

end Sys2Proof.Machine
end

