-- ==== Sys2Proof/Tests/Slice0.lean ====
section
/-!
SUPPORT. The tests: ill-formed commands are refused by the checks; single steps of the spec's worked cases, every
expected value the spec's own; and for every obligation with hypotheses a witness that they can be met.
-/

namespace Sys2Proof.Tests

open Sys2Proof.Machine

set_option Elab.async false

/-! ### Well-formedness -/

/-- A TIMED cue record without pages. -/
def timed (n : Nat) (anchor : Bbg) : CueRecord :=
  { number := n, kind := .timed, anchor := some anchor, slot := none, delayMs := none, leadMs := none
    dwellMs := none, essential := false, cut := false, pages := [] }

/-- A MANUAL cue record without pages. -/
def manual (n : Nat) : CueRecord := { timed n ⟨1, 1, 0⟩ with kind := .manual, anchor := none }

/-- A page with one line of these glyphs. -/
def page (id lane : Nat) (line : List Glyph) : Page := { id := id, lane := lane, lines := [line] }

/-- Listener settings for "GO" at positions 6 and 7 (08, the worked case). -/
def goAt67 (action : Option SlotAction) (ms : Nat) : ListenerSetup :=
  { positions := [6, 7], expected := 0x307F, action := action, argument := none, refractoryMs := ms }

/-- Each check of `Instr.wf` refuses an operand that does not fit. -/
theorem test_ill_formed_refused :
    [ Instr.setParam 256 0, .setParam 1 65536, .getParam 256, .loadMeter [⟨65536, 4⟩], .loadMeter [⟨1, 256⟩]
    , .sync ⟨65536, 1, 0⟩, .sync ⟨1, 256, 0⟩, .sync ⟨1, 1, 256⟩, .setTempo 65536
    , .loadCue (manual 65536), .loadCue (timed 1 ⟨65536, 1, 0⟩), .loadCue { manual 1 with slot := some 256 }
    , .loadCue { manual 1 with delayMs := some 65536 }, .loadCue { manual 1 with leadMs := some 65536 }
    , .loadCue { manual 1 with dwellMs := some 65536 }, .loadCue { manual 1 with pages := [⟨256, 1⟩] }
    , .loadCue { manual 1 with pages := [⟨0, 65536⟩] }, .loadCue { manual 1 with pages := List.replicate 256 ⟨0, 1⟩ }
    , .deleteCue 65536, .readCue 65536 .exactly, .arm ⟨1, 256, 0⟩ none none false
    , .arm ⟨1, 1, 0⟩ (some 65536) none false, .arm ⟨1, 1, 0⟩ none (some 65536) false, .jump 65536 false false
    , .loadPage (page 65536 0 []), .loadPage (page 1 256 []), .loadPage (page 1 0 (List.replicate 256 0x41))
    , .loadPage { page 1 0 [] with lines := List.replicate 256 [] }, .deletePage 65536
    , .setScreen 256 none, .setScreen 0 (some ⟨256, [1], 8⟩), .setScreen 0 (some ⟨0, [256], 8⟩)
    , .setScreen 0 (some ⟨0, [1], 256⟩), .setScreen 0 (some ⟨0, List.replicate 256 1, 8⟩)
    , .showPage 65536 (.lane 0), .showPage 1 (.screen 256), .clearOverride (.lane 256)
    , .setListener 256 (goAt67 none 0), .setListener 0 (goAt67 none 65536)
    , .setListener 0 { goAt67 none 0 with positions := [256] }
    , .setListener 0 { goAt67 none 0 with positions := List.replicate 256 0 }
    , .setListener 0 { goAt67 none 0 with argument := some ⟨1, 1, 256⟩ }
    , .clearListener 256, .readListener 256, .lineTest ⟨0, []⟩, .lineTest ⟨1, List.replicate 501 0⟩
    , .lineTestPulse ⟨0, []⟩, .refractoryExpiry 4 ].all (fun c => !c.wf) = true := by decide +kernel

/-- Operands at the top of their ranges are well formed. -/
theorem test_widest_are_formed :
    [ Instr.setParam 255 65535, .sync ⟨65535, 255, 255⟩, .loadCue (manual 65535), .refractoryExpiry 3
    , .lineTest ⟨1, List.replicate 500 0⟩, .setListener 255 (goAt67 none 65535) ].all Instr.wf = true := by
  decide +kernel

/-- The table gives no row bits, so no word spells a command. -/
theorem test_no_word_is_a_command : decodeTableWord 16 0x1234 = none ∧ decodeTableWord 0 0 = none := by
  decide +kernel

/-! ### Helpers -/

/-- What a command leaves, read by a function of the next state. -/
def after {α : Type} (c : Instr) (s : State) (read : State → α) : Option α :=
  match exec c s with
  | .next t => some (read t)
  | .fault _ => none
  | .refused _ => none

/-- A command answers a next state that passes a check. -/
def leads (c : Instr) (s : State) (check : State → Bool) : Bool :=
  match exec c s with
  | .next t => check t
  | .fault _ => false
  | .refused _ => false

/-- The state at a show clock time. -/
def at' (t : ShowTime) (s : State) : State := { s with showClock := t }

/-- The state with one request waiting, the reply path empty. -/
def asked (s : State) (kind : Byte) (body : List Byte) : State :=
  { s with port := { s.port with requests := [{ kind := kind, body := body }] } }

theorem asked_waiting (s : State) (kind : Byte) (body : List Byte) (hp : s.resetUnit.period = none)
    (hr : s.port.restartTaken = false) (hq : s.port.replies = []) :
    Waiting (asked s kind body) kind body [] :=
  ⟨rfl, hp, hr, by simp [asked, hq]⟩

/-- The status and body of the last reply. -/
def lastReply (s : State) : Option (Status × ReplyBody) := s.port.replies.getLast?.map (fun r => (r.status, r.body))

/-- The notice posted last. -/
def lastNotice (s : State) : Option Notice := s.port.notices.getLast?

/-- The meter map (1, 4), (9, 3), (21, 4) of chapter 1. -/
def meter : List MeterEntry := appendMeter [] [⟨1, 4⟩, ⟨9, 3⟩, ⟨21, 4⟩]

/-- Characters of a text of the Basic Latin block. -/
def bytesOf (text : String) : List Byte := text.toList.map (fun c => BitVec.ofNat 8 c.toNat)

/-! ### Chapter 1: positions and the beat -/

/-- 1.1, worked case: start grains, the end grain, and the conversions. -/
theorem test_positions :
    meter.map (fun e => e.startGrain) = [0, 6144, 13056] ∧ endGrain meter = some 7676927
      ∧ toGrains meter ⟨12, 2, 96⟩ = some 8160 ∧ toBbg meter 8160 = some ⟨12, 2, 96⟩
      ∧ toBbg meter 13055 = some ⟨20, 3, 191⟩ ∧ toGrains meter ⟨12, 4, 0⟩ = none := by decide +kernel

/-- Following the beat: the tracker at 40,000,000 µs. -/
def pit : State :=
  { State.reset with
    showClock := 40000000, meter := meter, params := { Params.defaults with positionReport := 1 }
    tracker := { mode := .following, confirmed := 7872, tc := 40000000, period := 600000, ppb := 2
                 pendingPpb := none, pulseCounter := 0, lossOpen := false } }

/-- The same after the pulse at 40,290,000. -/
def pit2 : State := { pit with tracker := { pit.tracker with confirmed := 7968, tc := 40290000, period := 592500 } }

/-- The same after the pulse at 40,990,000. -/
def pit3 : State := { pit2 with tracker := { pit2.tracker with confirmed := 8064, tc := 40990000 } }

/-- The same after the pulse at 43,000,000. -/
def pit4 : State := { pit2 with tracker := { pit2.tracker with confirmed := 8160, tc := 43000000 } }

/-- What a pulse leaves: the state, C, P, and the reported position and tempo. -/
def told (s : State) : TrackerMode × Nat × Nat × Option Nat × Nat :=
  (s.tracker.mode, s.tracker.confirmed, s.tracker.period, s.positionAt s.showClock, tempoOf s.tracker.period)

theorem test_pulse_accepted :
    after .beatPulse (at' 40290000 pit) told = some (.following, 7968, 592500, some 7968, 1013) := by decide +kernel

theorem test_pulse_stray :
    after .beatPulse (at' 40410000 pit2) told = some (.following, 7968, 592500, some 8006, 1013) := by decide +kernel

theorem test_readings : pit.positionAt 40290000 = some 7964 ∧ pit2.positionAt 40440000 = some 8016 := by
  decide +kernel

theorem test_clamp :
    after .clampExpiry (at' 40586250 pit2) told = some (.waiting, 7968, 592500, some 8063, 1013)
      ∧ after .clampExpiry (at' 40586249 pit2) (fun t => t.tracker.mode) = some .following := by decide +kernel

theorem test_pulse_late :
    leads .beatPulse (at' 40990000 pit2) (fun t => told t = (.following, 8064, 592500, some 8064, 1013)
      ∧ lastNotice t = some (.position (some ⟨8064, ⟨12, 2, 0⟩⟩) 1013 .following)
      ∧ t.tracker.pulseCounter = 0) := by decide +kernel

theorem test_beat_lost :
    leads .lossExpiry (at' 42767500 pit3) (fun t => told t = (.lost, 8064, 592500, some 8159, 1013)
      ∧ lastNotice t = some (.beatLost (some ⟨8159, ⟨12, 2, 95⟩⟩) 1013))
      ∧ after .lossExpiry (at' 42767499 pit3) (fun t => t.tracker.mode) = some .following := by decide +kernel

theorem test_pulse_regained :
    leads .beatPulse (at' 43000000 { pit3 with tracker := { pit3.tracker with mode := .lost, lossOpen := true } })
      (fun t => told t = (.following, 8160, 592500, some 8160, 1013)
        ∧ lastNotice t = some (.beatRegained (some ⟨8160, ⟨12, 2, 96⟩⟩) 1013)) := by decide +kernel

theorem test_set_tempo :
    after (.setTempo 900) (asked (at' 43200000 pit4) kSetTempo []) (fun t =>
      (t.tracker.period, t.tracker.tc, t.positionAt 43200000, lastReply t)) =
      some (666667, 42977777, some 8224, some (.ok, .tempo 900)) := by decide +kernel

theorem test_pulse_with_pending_ppb :
    leads .beatPulse (at' 43400000 { pit4 with tracker := { pit4.tracker with
        period := 666667, tc := 42977777, pendingPpb := some 1 } })
      (fun t => told t = (.following, 8256, 575000, some 8256, 1043) ∧ t.tracker.ppb = 1 ∧ t.tracker.pendingPpb = none
        ∧ lastNotice t = some (.position (some ⟨8256, ⟨12, 3, 0⟩⟩) 1043 .following)) := by decide +kernel

/-! ### Chapter 2: editing the list during a show -/

/-- A cue as stored, its anchor converted. -/
def stored (r : CueRecord) : Cue := { record := r, anchorGrains := r.anchor.bind (toGrains meter) }

/-- A STAGE cue on slot 1, and a FOLLOW cue. -/
def stage50 : CueRecord := { manual 50 with kind := .stage, slot := some 1 }
def follow30 (ms : Nat) : CueRecord := { manual 30 with kind := .follow, delayMs := some ms }

/-- The act of chapter 2's worked case. -/
def act : State :=
  { State.reset with
    meter := meter
    cues := [stored (timed 10 ⟨9, 1, 0⟩), stored (manual 20), stored (follow30 2000)
      , stored { timed 40 ⟨12, 2, 96⟩ with leadMs := some 400 }, stored stage50
      , stored { timed 60 ⟨21, 1, 0⟩ with essential := true }]
    sched := { Scheduler.fresh with
      mode := .running, next := .cue 30, live := { cue := some 20, sweep := 5, trigger := some .go }
      dwell := 500, follow := some { count := 7, fresh := false }, history := [10, 20] } }

/-- The numbers of the list. -/
def numbers (s : State) : List Nat := s.cues.map (fun c => c.record.number)

theorem test_load_cue_inserts :
    leads (.loadCue (timed 35 ⟨11, 1, 0⟩)) (asked act kLoadCue (cueBytes (timed 35 ⟨11, 1, 0⟩)))
      (fun t => numbers t = [10, 20, 30, 35, 40, 50, 60] ∧ t.cues[3]?.bind (fun c => c.anchorGrains) = some 7296
        ∧ t.sched.follow = some { count := 7, fresh := false }
        ∧ lastReply t = some (.ok, .cueLoaded true 7)) := by decide +kernel

theorem test_load_cue_live_and_next :
    after (.loadCue (manual 20)) (asked act kLoadCue (cueBytes (manual 20))) lastReply = some (some (.inUse, .empty))
      ∧ after (.loadCue (follow30 500)) (asked act kLoadCue (cueBytes (follow30 500))) (fun t =>
          (t.sched.follow, lastReply t)) =
        some (some { count := 0, fresh := false }, some (.ok, .cueLoaded false 6)) := by decide +kernel

theorem test_load_cue_bad_anchor :
    after (.loadCue (timed 45 ⟨12, 4, 0⟩)) (asked act kLoadCue (cueBytes (timed 45 ⟨12, 4, 0⟩))) lastReply =
      some (some (.badArgument, .empty)) := by decide +kernel

theorem test_delete_cue :
    after (.deleteCue 30) (asked act kDeleteCue []) (fun t => (t.sched.next, t.sched.follow, lastReply t)) =
        some (.cue 40, none, some (.ok, .cueCount 5))
      ∧ after (.deleteCue 10) (asked act kDeleteCue []) (fun t => (t.sched.next, t.sched.history)) =
        some (.cue 30, [20]) := by decide +kernel

theorem test_read_cue :
    after (.readCue 36 .atOrAfter) (asked act kReadCue []) lastReply =
      some (some (.ok, .cue { record := { timed 40 ⟨12, 2, 96⟩ with leadMs := some 400 }, anchorGrains := some 8160
                              live := false, inFlight := false, next := false, history := 0, count := 6 })) := by
  decide +kernel

/-! ### Chapter 3: readiness, catching up, GO and BACK -/

/-- The state of 3.5's worked case: the pit with cue 40 next, the part driving on an ACTIVE link. -/
def leading (lead : Nat) (link : LinkState) : State :=
  { pit2 with
    cues := [stored { timed 40 ⟨12, 2, 96⟩ with leadMs := some lead }]
    sched := { Scheduler.fresh with mode := .running, next := .cue 40 }
    own := { State.reset.own with state := .driving, drive := true, grant := true }
    bus := { State.reset.bus with link := link } }

/-- Whether the first cue is ready at a boundary at this time. -/
def readyAt (t : ShowTime) (s : State) : Bool :=
  match s.cues with
  | c :: _ => (at' t s).readyAt { number := 1, time := t, periodMs := 20, byPeer := false } true [] c
  | [] => false

theorem test_lead_active :
    readyAt 40462812 (leading 400 .active) = false ∧ readyAt 40462813 (leading 400 .active) = true := by
  decide +kernel

/-- Ready at 8,011 with the link QUIET: 43 grains past C, reached 132,696 µs after tc. -/
theorem test_lead_quiet :
    readyAt 40422695 (leading 400 .quiet) = false ∧ readyAt 40422696 (leading 400 .quiet) = true := by
  decide +kernel

/-- A lead is at most 768 grains: C + 95 + 768 is 8,831 here. -/
theorem test_lead_at_most_768 :
    let late := fun (p : Bbg) => { leading 3000 .active with cues := [stored { timed 40 p with leadMs := some 3000 }] }
    toGrains meter ⟨13, 2, 191⟩ = some 8831 ∧ readyAt 40586250 (late ⟨13, 2, 191⟩) = true
      ∧ readyAt 40586250 (late ⟨13, 3, 0⟩) = false := by decide +kernel

/-- Catching up after a jump: the state after SYNC 14:1:0 at time 1,000,000, the boundary of sweep 1000 due. -/
def jumped : State :=
  { State.reset with
    showClock := 1005000, meter := meter
    tracker := { mode := .following, confirmed := 9024, tc := 1000000, period := 500000, ppb := 1
                 pendingPpb := none, pulseCounter := 0, lossOpen := false }
    cues := [stored (timed 65 ⟨12, 3, 0⟩), stored (timed 70 ⟨13, 1, 0⟩)
      , stored { timed 80 ⟨13, 3, 0⟩ with essential := true, dwellMs := some 200 }, stored (timed 90 ⟨14, 1, 0⟩)
      , stored (timed 100 ⟨14, 2, 0⟩), stored (manual 110)]
    sched := { Scheduler.fresh with
      mode := .running, next := .cue 70, live := { cue := some 65, sweep := 900, trigger := some .timed }
      dwell := 500, history := [60, 65] }
    own := { State.reset.own with state := .driving, drive := true, grant := true }
    bus := { State.reset.bus with
      sweepNumber := 1000
      schedulerDue := [{ number := 1000, time := 1005000, periodMs := 20, byPeer := false }] } }

theorem test_walk_fires_the_essential_cue :
    after .schedulerBoundary jumped (fun t => (t.sched.next, (t.change.bind (fun c => c.firing)).map (fun f => f.cue)
      , lastNotice t)) =
      some (.cue 90, some 80, some (.cueSkipped 70 .overtaken 80 1000 (some ⟨9025, ⟨14, 1, 1⟩⟩))) := by decide +kernel

/-- The same at sweep 1000 + n, 5,000 + 20,000 × n µs after the sync: cue 80 live with this dwell count. -/
def holding (n : Nat) (dwell : Nat) : State :=
  { jumped with
    showClock := BitVec.ofNat 32 (1005000 + 20000 * n)
    sched := { jumped.sched with
      next := .cue 90, live := { cue := some 80, sweep := 1001, trigger := some .timed }, dwell := dwell
      history := [60, 65, 80] }
    bus := { jumped.bus with schedulerDue := [{ number := BitVec.ofNat 16 (1000 + n)
                                                time := BitVec.ofNat 32 (1005000 + 20000 * n)
                                                periodMs := 20, byPeer := false }] } }

theorem test_walk_holds_for_the_dwell :
    after .schedulerBoundary (holding 10 8) (fun t => (t.sched.next, t.sched.dwell, t.change.isNone)) =
      some (.cue 90, 9, true) := by decide +kernel

theorem test_walk_fires_once_the_dwell_has_run :
    after .schedulerBoundary (holding 11 9) (fun t => (t.sched.next, (t.change.bind (fun c => c.firing)).map (fun f =>
      f.cue), lastNotice t)) =
      some (.cue 110, some 100, some (.cueSkipped 90 .overtaken 100 1011 (some ⟨9110, ⟨14, 1, 86⟩⟩))) := by decide +kernel

/-- BACK with 120 live and the history ending 110, 120 (the list here ends 110). -/
theorem test_back :
    after .back (asked { jumped with sched := { jumped.sched with
        next := .endOfList, live := { cue := some 110, sweep := 1040, trigger := some .go }
        history := [65, 80, 100, 110] } } kBack [])
      (fun t => (t.sched.mode, t.sched.next, t.sched.history, (t.change.bind (fun c => c.firing)).map (fun f =>
        (f.cue, f.trigger)))) =
      some (.held, .cue 110, [65, 80, 100, 110], some (100, .back)) := by decide +kernel

theorem test_go_pending_then_busy :
    let flying := (after .go (asked jumped kGo []) id).getD jumped
    let again := asked { flying with port := jumped.port } kGo []
    after .go again (fun t => (t.sched.pendingGo, lastReply t)) = some (some .go, some (.ok, .goPending))
      ∧ after .go { again with sched := { again.sched with pendingGo := some .go } } lastReply =
        some (some (.busy, .empty)) := by decide +kernel

/-! ### Chapter 4: layout, and a firing merged with held overrides -/

/-- `n` glyphs numbered from 1 on. -/
def glyphs (n : Nat) : List Glyph := (List.range n).map (fun k => BitVec.ofNat 16 (0x100 + k + 1))

theorem test_layout :
    layLine 48 (glyphs 29) = List.replicate 9 space ++ glyphs 29 ++ List.replicate 10 space
      ∧ layLine 64 (glyphs 29) = List.replicate 17 space ++ glyphs 29 ++ List.replicate 18 space
      ∧ layLine 64 (glyphs 52) = List.replicate 6 space ++ glyphs 52 ++ List.replicate 6 space
      ∧ layLine 48 (glyphs 52) = glyphs 48 := by decide +kernel

theorem test_segments :
    ((segmentsOf ⟨1, [3, 4, 5], 16⟩ { id := 212, lane := 1, lines := [glyphs 29, glyphs 52] })[1]?).map (fun g =>
      (g.tile, g.codes)) =
      some (4, (glyphs 23).drop 7 ++ (glyphs 32).drop 16 ++ List.replicate 16 space) := by decide +kernel

/-- A cue that names a page for lanes 0 and 1. -/
def pair (n p q : Nat) : Cue := stored { manual n with pages := [⟨0, p⟩, ⟨1, q⟩] }

/-- Screen `lane` showing a cue's page with a live tag and a counter. -/
def showing (u : ScreenSetup) (cue pg tag counter : Nat) : Screen :=
  { Screen.fresh with
    setup := some u, cueSource := .page cue pg, live := { source := .cue cue pg, found := true }
    liveTag := tag, tagCounter := counter }

def left : ScreenSetup := ⟨0, [3, 4, 5], 16⟩
def right : ScreenSetup := ⟨1, [9, 10], 32⟩

/-- Two screens, driving, all five tiles IN; cue 40 live, cue 50 next (chapters 4 to 7). -/
def house : State :=
  { State.reset with
    meter := meter
    cues := [pair 40 100 200, pair 50 110 210, pair 70 120 220]
    pages := [page 100 0 (glyphs 3), page 110 0 (glyphs 4), page 120 0 (glyphs 5), page 200 1 (glyphs 6)
      , page 210 1 (glyphs 7), page 220 1 (glyphs 8), page 250 1 (glyphs 9)]
    sched := { Scheduler.fresh with
      mode := .running, next := .cue 50, live := { cue := some 40, sweep := 2000, trigger := some .go }
      dwell := 500, history := [30, 40] }
    screens := { s0 := showing left 40 100 7 7, s1 := showing right 40 200 4 4, s2 := Screen.fresh, s3 := Screen.fresh }
    own := { State.reset.own with state := .driving, drive := true, grant := true }
    bus := { State.reset.bus with
      sweepNumber := 2400, tiles := freshTiles.map (fun t => { t with state := .inService }) } }

/-- The screens and tags of the change in flight. -/
def tags (s : State) : Option (List (Fin 4 × ScreenInstr)) :=
  s.change.map (fun c => c.entries.map (fun e => (e.screen, e.instr)))

/-- Step 3: screen 1's live tag is 3 and its counter 4, and a SET 250 edit is held. -/
theorem test_firing_leaves_the_held_edit_out :
    after .go (asked { house with
        groupHold := true
        screens := { house.screens with
          s1 := { showing right 40 200 3 4 with edit := some (.set 250) } } } kGo [])
      (fun t => (tags t, (t.screens.get 1).edit)) =
      some (some [(0, .swap 8), (1, .swap 5)], some (.set 250)) := by decide +kernel

/-- Had the group been released before, screen 1 would have gone straight to page 250. -/
theorem test_firing_takes_the_released_edit :
    after .go (asked { house with
        screens := { house.screens with s1 := { house.screens.s1 with edit := some (.set 250) } } } kGo [])
      (fun t => t.change.bind (fun c => (c.entries.find? (fun e => e.screen == 1)).map (fun e => e.shown.source))) =
      some (some (.override 250)) := by decide +kernel

/-! ### Chapters 5 and 6: a silent tile, blackout, the link -/

/-- A boundary of this part's own. -/
def boundary (n : SweepNo) (t : ShowTime) : Boundary := { number := n, time := t, periodMs := 20, byPeer := false }

/-- Cue 50's change in flight with these tiles acknowledged. -/
def fired (acked : List Nat) (count : Nat) : State :=
  let t := (after .go (asked house kGo []) id).getD house
  { t with
    port := house.port, change := t.change.map (fun c => { c with acked := acked, markCount := count, whole := true })
    bus := { t.bus with controllerDue := [boundary 2403 60000] }, showClock := 60000 }

theorem test_required_set : (fired [] 0).change.map (fun c => c.required) = some [3, 4, 5, 9, 10] := by decide +kernel

theorem test_mark_counts :
    after .controllerBoundary (fired [3, 5, 9, 10] 0) (fun t => t.change.map (fun c => c.markCount)) = some (some 1) := by
  decide +kernel

theorem test_forced_commit :
    leads .forcedCommit (fired [3, 5, 9, 10] 2) (fun t =>
      lastNotice t = some (.tileOut 4 (some 0) 2403 .noAck) ∧ t.isOut 4 = true ∧ (t.screens.get 0).liveTag = 8
        ∧ (t.screens.get 1).liveTag = 5
        ∧ t.reports.map (fun r => (r.cue, r.sweep, r.partialScreens)) = [(50, 2403, [0])]) := by decide +kernel

/-- Tile 4 back IN with its repair acknowledged: mark 2,452 gives screen 0 SWAP 9 and screen 1 NONE. -/
theorem test_repair_mark :
    after .controllerBoundary { house with
        showClock := 60000
        screens := { house.screens with s0 := showing left 40 100 9 9 }
        bus := { house.bus with
          controllerDue := [boundary 2452 60000]
          tiles := house.bus.tiles.map (fun t =>
            if t.address = 4 then { t with repairDue := true, repairTag := some 9 } else t) } }
      (fun t => (match t.bus.busOut with
        | some (.sweep f) => some (f.screens.s0.instr, f.screens.s0.liveTag, f.screens.s1.instr)
        | _ => none, t.bus.tiles.any (fun t => t.repairDue))) =
      some (some (.swap, 9, .none), false) := by decide +kernel

/-- Slot 0 carries the first attempt to tile 3, and slot 30 is kept for a poll while a tile is OUT. -/
theorem test_first_slot :
    after .slotStart { fired [] 0 with
        showClock := 61000
        bus := { (fired [] 0).bus with
          interval := some { sweep := 2400, start := 60000, slots := 31, next := 0, busy := 0, attempted := []
                             failed := [], retried := [], repaired := [], carries := true, surveyed := false } } }
      (fun t => match t.bus.busOut with | some (.content tile tag cpt _) => some (tile, tag, cpt) | _ => none) =
      some (some (3, 8, 16)) := by decide +kernel

theorem test_blackout :
    leads .blackout (asked (fired [3, 4, 5, 9] 0) kBlackout []) (fun t =>
      lastReply t = some (.ok, .dark (.darkened (some (some 50)))) ∧ tags t = some [(0, .blank), (1, .blank)]
        ∧ t.change.map (fun c => (c.required, c.firing.map (fun f => f.cue))) = some ([], some 50)) := by decide +kernel

/-- Cue 70 dark: its restore after the LIFT has tags 11 and 8, the counters having held 10 and 7. -/
theorem test_lift :
    after .lift (asked { house with
        sched := { house.sched with blackout := true }
        screens := {
          s0 := { showing left 70 120 0 10 with live := { source := .dark, found := false } }
          s1 := { showing right 70 220 0 7 with live := { source := .dark, found := false } }
          s2 := Screen.fresh, s3 := Screen.fresh } } kLift [])
      (fun t => (lastReply t, tags t)) =
      some (some (.ok, .lifted true), some [(0, .swap 11), (1, .swap 8)]) := by decide +kernel

/-! ### Chapter 7: a takeover during a change -/

/-- An entry of the peer's frame 5,000 for a page of cue 40. -/
def peerEntry (pg tag : Nat) : AsShown :=
  { instr := .none, liveTag := tag, tagCounter := tag, kind := .cue, cue := some 40, page := some pg
    partialMark := false }

/-- Part B, GRANTED, its own cue 50 change waiting, at its boundary 5,001. -/
def partB : State :=
  let s : State := { house with
    screens := { house.screens with s0 := showing left 40 100 5 5, s1 := showing right 40 200 3 3 } }
  let t := (after .go (asked s kGo []) id).getD s
  { t with
    port := house.port, showClock := 60000
    own := { State.reset.own with state := .granted, grant := true, takeover := true }
    mirror := { Mirror.fresh with
      current := true, number := 5000
      screens := { Mirror.fresh.screens with s0 := peerEntry 100 12, s1 := peerEntry 200 20 } }
    bus := { t.bus with
      sweepNumber := 5001, controllerDue := [boundary 5001 60000], ownershipDue := [boundary 5001 60000]
      tiles := freshTiles } }

theorem test_takeover :
    leads .ownershipBoundary partB (fun t =>
      t.own.state = .driving ∧ t.own.drive = true ∧ tags t = some [(0, .swap 14), (1, .swap 22)]
        ∧ (t.screens.get 0).liveTag = 12 ∧ (t.screens.get 1).liveTag = 20
        ∧ t.change.map (fun c => (c.required, c.firing.map (fun f => f.cue))) = some ([3, 4, 5, 9, 10], some 50)
        ∧ lastNotice t = some (.ownership .driving .granted 5001 .driveStart true)) := by decide +kernel

/-! ### Chapters 8 and 9: a desk call, an open joint -/

/-- A listener slot with "GO" at 6 and 7. -/
def goSlot (action : SlotAction) (ms : Nat) : Slot :=
  { Slot.fresh with setup := some { positions := [6, 7], expected := 0x307F, action := action, argument := none
                                    refractoryMs := ms } }

/-- The desk case at 100 ms: HELD, two slots set. -/
def desk : State :=
  { house with
    showClock := 100000
    sched := { house.sched with mode := .held }
    listener := { receiver := ShowReceiver.fresh, slots := { s0 := goSlot .fireStage 1000, s1 := goSlot .release 0
                                                             s2 := Slot.fresh, s3 := Slot.fresh } } }

/-- The bytes of a show-control frame, each with its stop bit (11, section 11.5). -/
def showBytes (body : List Byte) : List LineByte :=
  (0xD7 :: byteOf body.length :: body ++ checkBytes (crc (byteOf body.length :: body))).map (fun b => ⟨b, true⟩)

theorem test_desk_call :
    after (.showFrame (showBytes (bytesOf "LX 45 GO"))) desk (fun t =>
      (t.listener.slots.s0.latch, t.listener.slots.s0.refractoryEnd, t.listener.slots.s1.refractoryEnd, t.sched.mode
        , t.port.notices.drop 1)) =
      some (true, some 1100000, none, .running,
        [.listenerMatch 0 .fireStage .latched .none 100000 2400
          , .listenerMatch 1 .release (.taken .ok) .none 100000 2400]) := by decide +kernel

/-- In its refractory time slot 0 is passed over; the expiry lets it match again, and the end is not found by comparing
clock readings (R147): the reading below is 2^31 µs past it. -/
theorem test_refractory :
    let busy := { desk with
      showClock := 400000
      listener := { desk.listener with slots := { desk.listener.slots with
        s0 := { goSlot .fireStage 1000 with refractoryEnd := some 1100000 } } } }
    after (.showFrame (showBytes (bytesOf "LX 45 GO"))) busy (fun t => (t.listener.slots.s0.latch, t.port.notices.length))
        = some (false, 2)
      ∧ after (.refractoryExpiry 0) (at' 2148583648 busy) (fun t => t.listener.slots.s0.refractoryEnd) = some none := by
  decide +kernel

/-- A running line test whose eight pulses saw these delays and classes. -/
def testing (delays : List (Nat × EchoClass)) (factor : Nat) : State :=
  { State.reset with
    showClock := 10040000
    params := { Params.defaults with velocityFactor := factor }
    lineTest := { LineTest.fresh with
      started := some 10000000, pulses := 8, reflections := delays.map (fun d => ⟨d.1, d.2⟩) } }

/-- The seven OPEN delays and the one MISMATCH of the worked case. -/
def joint : List (Nat × EchoClass) :=
  ([396, 400, 400, 404].map (fun d => (d, .opened))) ++ (400, .mismatch)
    :: ([396, 404, 400].map (fun d => (d, .opened)))

/-- What a completed line test found. -/
def found (s : State) : Option TestOutcome := s.lineTest.last.map (fun r => r.outcome)

theorem test_line_test :
    after .lineTestComplete (testing joint 66) found = some (some (.fault .opened 400 396))
      ∧ after .lineTestComplete (testing joint 50) found = some (some (.fault .opened 400 300))
      ∧ after .lineTestComplete (testing (List.replicate 8 (100, .opened)) 55) found =
        some (some (.fault .opened 100 83)) := by decide +kernel

/-- 9.1: a reflection of the pulse's own polarity at 82% is OPEN and at 71% MISMATCH; 100 samples are 400 ns. -/
theorem test_reflection :
    let echo := fun (percent : Int) => ({ amplitude := 100, samples := List.replicate 99 0 ++ [percent] } : Echo)
    let s := { testing joint 66 with
      showClock := 10035000, lineTest := { (testing joint 66).lineTest with pulses := 7, reflections := [] } }
    after (.lineTestPulse (echo 82)) s (fun t => t.lineTest.reflections) = some [⟨400, .opened⟩]
      ∧ after (.lineTestPulse (echo 71)) s (fun t => t.lineTest.reflections) = some [⟨400, .mismatch⟩] := by
  decide +kernel

/-- R158: an interval in which a survey was taken carries no poll of it, whatever it carried of one before. -/
theorem test_survey_clears_the_interval :
    let s : State := { house with bus := { house.bus with
      interval := some { sweep := 2400, start := 60000, slots := 31, next := 3, busy := 3, attempted := [], failed := []
                         retried := [], repaired := [], carries := true, surveyed := true } } }
    after .survey (asked s kSurvey []) (fun t => (t.survey.running, t.bus.interval.map (fun iv => iv.surveyed))) =
      some (true, some false) := by decide +kernel

/-- R173: after a CLEAR_ACT the live cue record names no cue, and STATUS gives its sweep and trigger as absent. 11.3: TILE_OUT's kind code. -/
theorem test_status_without_a_live_cue :
    let s : State := { State.reset with sched := { Scheduler.fresh with
      live := { cue := none, sweep := 77, trigger := some .go } } }
    after .status (asked s kStatus []) (fun t => match lastReply t with
        | some (_, .status r) => some r.live
        | _ => none) = some (some { cue := none, sweep := 0, trigger := none })
      ∧ (Notice.tileOut 4 (some 0) 2403 .noAck).kind = 0x67 := by decide +kernel

/-! ### Chapters 10 and 11: the queues, the check -/

/-- A request record's bytes, each with its stop bit. -/
def recordLine (kind : Byte) (body : List Byte) : List LineByte := (recordBytes kind body).map (fun b => ⟨b, true⟩)

/-- 10.6, worked case: with B to E queued, F is answered FULL. -/
theorem test_fifth_request_is_full :
    let four : List Record := List.replicate 4 ⟨0x13, []⟩
    after (.controlRecordReceive (recordLine 0x01 [])) { house with port := { house.port with requests := four } }
      (fun t => (t.port.requests.length, t.port.replies)) =
      some (4, [{ kind := 0x81, taken := false, status := .full, body := .empty }]) := by decide +kernel

/-- 11.1: the check values. -/
theorem test_check_values :
    crc (bytesOf "123456789") = 0x29B1 ∧ crc (bytesOf "A") = 0xB915 ∧ crc (bytesOf "GO") = 0x307F := by decide +kernel

/-! ### Witnesses: the hypotheses of the obligations can be met

One theorem per obligation, named after it, each clause at the edges of its ranges. -/

theorem meter_ok : MeterOk meter :=
  ⟨by decide +kernel, by decide +kernel, by decide +kernel, by
    delta meterNext; decide +kernel⟩

theorem act_cues : CuesOk act.cues := ⟨by decide +kernel, by decide +kernel⟩

theorem pit_tracker : TrackerOk pit.tracker := ⟨by decide +kernel, by decide +kernel, by decide +kernel⟩

/-- Every kind of request can wait in these states. -/
theorem waits_in (kind : Byte) (body : List Byte) :
    Waiting (asked State.reset kind body) kind body [] ∧ Waiting (asked pit kind body) kind body []
      ∧ Waiting (asked act kind body) kind body [] ∧ Waiting (asked house kind body) kind body []
      ∧ Waiting (asked desk kind body) kind body [] :=
  by refine ⟨?_, ?_, ?_, ?_, ?_⟩ <;> exact asked_waiting _ _ _ rfl rfl rfl

theorem witness_StepRunsTheFrontCommand :
    ({ State.reset with pending := [.go, .hold] } : State).pending = [.go, .hold] ∧ State.reset.pending = [] :=
  ⟨rfl, rfl⟩

theorem witness_PositionConversionsAreInverse :
    MeterOk meter ∧ toGrains meter ⟨1, 1, 0⟩ = some 0 ∧ toGrains meter ⟨9999, 4, 191⟩ = some 7676927
      ∧ endGrain meter = some 7676927 := ⟨meter_ok, by decide +kernel⟩

theorem witness_LoadMeterAppends :
    Waiting (asked State.reset kLoadMeter []) kLoadMeter [] []
      ∧ meter.length ≤ 2 + 1 ∧ (appendMeter meter [⟨22, 16⟩])[2]? = some ⟨21, 4, 13056⟩
      ∧ (appendMeter meter [⟨22, 16⟩])[3]? = some ⟨22, 16, 13824⟩ := ⟨(waits_in _ _).1, by decide +kernel⟩

theorem witness_PulsesReachTheTracker : Waiting (asked pit kTap []) kTap [] [] := (waits_in _ _).2.1

/-- The scaled interval of R12, the step of the pit being half a beat. -/
def scaledAt (t : ShowTime) : Nat := (t - pit.tracker.tc).toNat * pit.tracker.ppb

theorem witness_PulseOutcomes :
    pit.resetUnit.period = none ∧ pit.tracker.mode = .following ∧ pit.tracker.pendingPpb = none
      ∧ 2 * scaledAt 40149999 < 600000 ∧ 600000 = 2 * scaledAt 40150000 ∧ scaledAt 40600000 = 2 * 600000
      ∧ 2 * 600000 < scaledAt 40600001 ∧ State.reset.tracker.mode = .stopped
      ∧ ∀ m : TrackerMode, ({ pit with tracker := { pit.tracker with mode := m } } : State).tracker.mode = m := by
  and_intros
  all_goals first | exact fun _ => rfl | decide +kernel

/-- At both ends of the window, with D = 8 and D = −8, and at both ends of FOLLOW_GAIN. -/
theorem witness_TempoUpdateRounds :
    pit.tracker.mode = .following ∧ pit.tracker.period = 2 * scaledAt 40150000
      ∧ scaledAt 40600000 = 2 * pit.tracker.period ∧ (scaledAt 40300004 : Int) - pit.tracker.period = 8
      ∧ (scaledAt 40299996 : Int) - pit.tracker.period = -8
      ∧ (∀ g ∈ [1, 16], ({ Params.defaults with followGain := g } : Params).followGain = g ∧ 1 ≤ g ∧ g ≤ 16) := by
  decide +kernel

/-- Each of the five commands, and the passing of time, lead on. -/
theorem witness_PositionNeverFallsBack :
    TrackerOk pit.tracker ∧ pit.tracker.mode = .following
      ∧ [Instr.beatPulse, .tap, .clampExpiry, .lossExpiry, .setTempo 900].all (fun c =>
          leads c (asked (at' 40290000 pit) kSetTempo []) (fun t => (t.positionAt t.showClock).isSome)) = true
      ∧ pit.positionAt 40290000 = some 7964 ∧ (at' 40290000 pit).pending = []
      ∧ ((40290000 : ShowTime) - pit.tracker.tc).toNat < 2 ^ 31
      ∧ (match step (at' 40290000 pit) with
        | .next t => t.positionAt t.showClock
        | .fault _ => none
        | .refused _ => none) = some 7964 := ⟨pit_tracker, by decide +kernel⟩

theorem witness_SyncSetsThePosition : Waiting (asked pit kSync []) kSync [] [] := (waits_in _ _).2.1

theorem witness_SetTempoKeepsThePosition :
    Waiting (asked pit kSetTempo []) kSetTempo [] [] ∧ TrackerOk (asked pit kSetTempo []).tracker :=
  ⟨(waits_in _ _).2.1, pit_tracker⟩

/-- The act with no meter map, and a list of 2,048 cues. -/
def noMap : State := { act with meter := [] }
def full : State := { act with cues := (List.range 2048).map (fun k => stored (manual (k + 1))) }

theorem full_cues : CuesOk full.cues :=
  ⟨by simp [full], by simp [full, List.pairwise_map, stored, manual, timed, List.pairwise_lt_range]⟩

/-- Parsed, in and out of range, agreeing or not with the kind, held or not, in use or not, the list full or not. -/
theorem witness_LoadCueStoresTheRecord :
    (∀ k body, Waiting (asked act k body) k body []) ∧ CuesOk act.cues ∧ CuesOk full.cues
      ∧ [manual 0, manual 1, manual 65000, manual 65001, manual 20, manual 30, timed 45 ⟨12, 4, 0⟩
          , timed 45 ⟨9999, 4, 191⟩, { manual 1 with essential := true }
          , { manual 1 with pages := [⟨0, 1⟩, ⟨0, 4095⟩] }, { manual 1 with pages := [⟨3, 1⟩, ⟨0, 4095⟩] }].all
          (fun c => decide (parseCue (cueBytes c) = some c)) = true
      ∧ ¬ CueInRange (manual 0) ∧ ¬ CueInRange (manual 65001) ∧ CueInRange (manual 1) ∧ CueInRange (manual 65000)
      ∧ CueInRange (manual 2049) ∧ CueInRange (timed 45 ⟨9999, 4, 191⟩)
      ∧ ¬ CueFieldsAgree { manual 1 with essential := true } ∧ CueFieldsAgree (manual 1)
      ∧ CueFieldsAgree (timed 45 ⟨9999, 4, 191⟩)
      ∧ ¬ (({ manual 1 with pages := [⟨0, 1⟩, ⟨0, 4095⟩] } : CueRecord).pages.map (fun r => r.lane)).Nodup
      ∧ (({ manual 1 with pages := [⟨3, 1⟩, ⟨0, 4095⟩] } : CueRecord).pages.map (fun r => r.lane)).Nodup
      ∧ noMap.meter = [] ∧ act.meter ≠ [] ∧ toGrains act.meter ⟨12, 4, 0⟩ = none
      ∧ toGrains act.meter ⟨9999, 4, 191⟩ = some 7676927
      ∧ (∃ d ∈ act.cues, d.record.number = 20) ∧ InUse act 20 ∧ (∃ d ∈ act.cues, d.record.number = 30)
      ∧ ¬ InUse act 30 ∧ ¬ InUse act 10
      ∧ (¬ ∃ d ∈ act.cues, d.record.number = 1) ∧ act.cues.length < 2048
      ∧ (¬ ∃ d ∈ full.cues, d.record.number = 2049) ∧ 2048 ≤ full.cues.length := by
  refine ⟨fun k b => (waits_in k b).2.2.1, act_cues, full_cues, ?_⟩
  and_intros
  all_goals first
    | decide +kernel
    | (simp only [InUse, InFlight, CueFieldsAgree]; decide +kernel)
    | exact fun h => absurd h.number (by decide)
    | (constructor <;> (try simp only [BbgInRange]) <;> decide +kernel)

/-- Cue 15 is not in the list, 20 is live, 60 is the last, and the pointer names 30. -/
theorem witness_DeleteCueMovesThePointer :
    Waiting (asked act kDeleteCue []) kDeleteCue [] [] ∧ CuesOk act.cues
      ∧ (¬ ∃ c ∈ act.cues, c.record.number = 15) ∧ InUse act 20 ∧ act.sched.next = .cue 30
      ∧ (∀ n ∈ [10, 30, 60], (∃ c ∈ act.cues, c.record.number = n) ∧ ¬ InUse act n)
      ∧ (∃ c ∈ act.cues, c.record.number = 20) := by
  refine ⟨(waits_in _ _).2.2.1, act_cues, ?_⟩
  simp only [InUse, InFlight]
  decide +kernel

theorem witness_ReadCueReadsTheRecord :
    Waiting (asked act kReadCue []) kReadCue [] []
      ∧ (∀ n ∈ [0, 65001], ¬ (1 ≤ n ∧ n ≤ 65000)) ∧ act.cues.filter (fun c => 61 ≤ c.record.number) = []
      ∧ act.cues.filter (fun c => c.record.number = 65000) = []
      ∧ ((act.cues.filter (fun c => 1 ≤ c.record.number)).head?).isSome = true
      ∧ ((act.cues.filter (fun c => c.record.number = 60)).head?).isSome = true :=
  ⟨(waits_in _ _).2.2.1, by decide +kernel⟩

/-- In IDLE with nothing in flight, with a change in flight, and out of IDLE. -/
theorem witness_ClearActEmptiesTheAct :
    Waiting (asked State.reset kClearAct []) kClearAct [] [] ∧ Waiting (asked act kClearAct []) kClearAct [] []
      ∧ act.sched.mode ≠ .idle ∧ State.reset.sched.mode = .idle ∧ ¬ Flying State.reset
      ∧ Flying { fired [] 0 with sched := Scheduler.fresh } := by
  refine ⟨(waits_in _ _).1, (waits_in _ _).2.2.1, ?_⟩
  simp only [Flying]
  decide +kernel

theorem witness_ArmSetsTheStart :
    Waiting (asked act kArm []) kArm [] [] ∧ Waiting (asked State.reset kArm []) kArm [] [] ∧ act.meter ≠ []
      ∧ State.reset.meter = [] ∧ toGrains act.meter ⟨12, 4, 0⟩ = none ∧ toGrains act.meter ⟨12, 2, 97⟩ = some 8161 :=
  ⟨(waits_in _ _).2.2.1, (waits_in _ _).1, by decide +kernel⟩

theorem witness_StopHoldAndRelease : ∀ kind ∈ [kStop, kHold, kRelease],
    Waiting (asked act kind []) kind [] [] ∧ Waiting (asked State.reset kind []) kind [] [] :=
  fun _ _ => ⟨(waits_in _ _).2.2.1, (waits_in _ _).1⟩

/-- The house with a restore waiting on screen 2. -/
def restoring : State := { house with screens := { house.screens with s2 := { Screen.fresh with restore := true } } }

theorem witness_FiringsAndWaitingWorkAreBuilt :
    restoring.change = none ∧ Waits restoring 2 ∧ (∀ i, ¬ Waits house i) ∧ (fired [] 0).change ≠ none := by
  simp only [Waits]
  decide +kernel

/-- The house IDLE, at end of list, free, and with a change in flight, with and without a pending GO. -/
def idle : State := { house with sched := { Scheduler.fresh with live := house.sched.live } }
def ended : State := { house with sched := { house.sched with next := .endOfList } }
def waitingGo : State := { fired [] 0 with sched := { (fired [] 0).sched with pendingGo := some .go } }

theorem witness_GoFiresOrWaits :
    (∀ s ∈ [idle, ended, house, fired [] 0, waitingGo], Waiting (asked s kGo []) kGo [] [])
      ∧ idle.sched.mode = .idle ∧ ended.sched.mode ≠ .idle ∧ ended.nextCue? = none
      ∧ house.sched.mode ≠ .idle ∧ house.nextCue? ≠ none ∧ ¬ Flying house ∧ Flying (fired [] 0)
      ∧ (fired [] 0).sched.mode ≠ .idle ∧ (fired [] 0).nextCue? ≠ none ∧ (fired [] 0).sched.pendingGo = none
      ∧ waitingGo.sched.pendingGo ≠ none ∧ Flying waitingGo := by
  refine ⟨?_, ?_⟩
  · simp only [List.mem_cons, List.not_mem_nil, or_false]
    rintro s (rfl | rfl | rfl | rfl | rfl) <;> exact asked_waiting _ _ _ rfl rfl rfl
  · simp only [Flying]
    decide +kernel

theorem witness_JumpPointsSyncsAndFires :
    (∀ s ∈ [idle, act, fired [] 0, waitingGo], Waiting (asked s kJump []) kJump [] [])
      ∧ idle.sched.mode = .idle ∧ act.sched.mode ≠ .idle ∧ act.cue? 1 = none ∧ act.cue? 65000 = none
      ∧ (act.cue? 20).map (fun c => c.anchorGrains) = some none
      ∧ (act.cue? 60).map (fun c => c.anchorGrains) = some (some 13056) ∧ ¬ Flying act
      ∧ (fired [] 0).cue? 70 ≠ none ∧ Flying (fired [] 0) ∧ (fired [] 0).sched.pendingGo = none
      ∧ waitingGo.sched.pendingGo ≠ none ∧ Flying waitingGo ∧ (fired [] 0).sched.mode ≠ .idle := by
  refine ⟨?_, ?_⟩
  · simp only [List.mem_cons, List.not_mem_nil, or_false]
    rintro s (rfl | rfl | rfl | rfl) <;> exact asked_waiting _ _ _ rfl rfl rfl
  · simp only [Flying]
    decide +kernel

/-- A history of one entry, of two, and of two with a change in flight. -/
theorem witness_BackFiresTheEntryBefore :
    (∀ s ∈ [idle, act, jumped, fired [] 0], Waiting (asked s kBack []) kBack [] [])
      ∧ idle.sched.mode = .idle ∧ ({ act with sched := { act.sched with history := [10] } } : State).sched.history.length < 2
      ∧ jumped.sched.mode ≠ .idle ∧ act.sched.history = [] ++ [10, 20] ∧ act.sched.mode ≠ .idle ∧ ¬ Flying act
      ∧ act.cue? 10 ≠ none ∧ (fired [] 0).sched.history = [] ++ [30, 40] ∧ Flying (fired [] 0) := by
  refine ⟨?_, ?_⟩
  · simp only [List.mem_cons, List.not_mem_nil, or_false]
    rintro s (rfl | rfl | rfl | rfl) <;> exact asked_waiting _ _ _ rfl rfl rfl
  · simp only [Flying]
    decide +kernel

/-- A boundary due for the scheduler IDLE, flying, HELD, HELD with a pending GO, and RUNNING. -/
theorem witness_SchedulerBoundaryInOrder :
    let due := [boundary 1000 1005000]
    let flying : State := { fired [] 0 with bus := { (fired [] 0).bus with schedulerDue := due } }
    let held : State := { jumped with sched := { jumped.sched with mode := .held } }
    let going : State := { held with sched := { held.sched with pendingGo := some .jump } }
    (∀ s ∈ [jumped, flying, held, going], s.bus.schedulerDue = due ∧ s.resetUnit.period = none)
      ∧ Flying flying ∧ held.sched.mode = .held ∧ held.sched.pendingGo = none ∧ ¬ Flying going
      ∧ going.sched.mode ≠ .idle ∧ going.sched.pendingGo = some .jump ∧ going.nextCue? ≠ none ∧ ¬ Flying jumped
      ∧ jumped.sched.mode = .running ∧ jumped.sched.pendingGo = none := by
  simp only [Flying]
  decide +kernel

/-- A cue of each kind, and states in which it is ready; a walk that ends at a cue that is not, and one whose second
STAGE cue stands on the slot of the first. -/
theorem witness_ReadinessOfEachKind :
    let b := boundary 1 40462813
    let latched : State := { act with listener := { act.listener with slots := { act.listener.slots with
      s1 := { Slot.fresh with latch := true } } } }
    let twins : State := { latched with
      sched := { act.sched with next := .cue 50 }
      cues := [stored stage50, stored { stage50 with number := 51 }] }
    let numbers := fun (l : List Cue) => l.map (fun c => c.record.number)
    (stored (manual 1)).record.kind = .manual
      ∧ (at' 40462813 (leading 400 .active)).readyAt b true [] (stored { timed 40 ⟨12, 2, 96⟩ with leadMs := some 400 })
        = true
      ∧ ({ act with sched := { act.sched with follow := some { count := 100, fresh := false } } } : State).readyAt
        b true [] (stored (follow30 2000)) = true
      ∧ ({ act with sched := { act.sched with follow := some { count := 99, fresh := false } } } : State).readyAt
        b true [] (stored (follow30 2000)) = false
      ∧ latched.readyAt b true [] (stored stage50) = true ∧ latched.readyAt b false [1] (stored stage50) = false
      ∧ numbers (jumped.readySet (boundary 1000 1005000)) = [70, 80, 90]
      ∧ numbers jumped.fromPointer = [70, 80, 90, 100, 110]
      ∧ (∀ i : Fin 4, i ∈ ([] : List (Fin 4)) ↔
          ∃ d ∈ jumped.readySet (boundary 1000 1005000), d.record.kind = .stage ∧ d.record.slot = some i.val)
      ∧ numbers (twins.readySet b) = [50] ∧ numbers twins.fromPointer = [50, 51]
      ∧ (∀ i : Fin 4, i ∈ ([1] : List (Fin 4)) ↔
          ∃ d ∈ twins.readySet b, d.record.kind = .stage ∧ d.record.slot = some i.val) := by
  decide +kernel

theorem witness_ChoiceOfTheReadySet :
    let essential := stored { manual 80 with kind := .timed, essential := true }
    (∀ c ∈ [stored (manual 70)], c.record.essential = false)
      ∧ [stored (manual 70), essential] = [stored (manual 70)] ++ essential :: [] ∧ essential.record.essential = true := by
  decide +kernel

/-- Nothing ready; a choice with the dwell short; a choice with it run; a chosen FOLLOW and a chosen STAGE cue; no live
cue; the default dwell of 1,500 ms at 75 boundaries and at 74. -/
theorem witness_WalkFiresTheChosenCue :
    let b := boundary 1000 1005000
    let dwelt := fun (n : Nat) => ({ jumped with sched := { jumped.sched with dwell := n } } : State)
    let follow : State := { act with sched := { act.sched with follow := some { count := 100, fresh := false } } }
    let stage : State := { act with
      sched := { act.sched with next := .cue 50 }
      listener := { act.listener with slots := { act.listener.slots with s1 := { Slot.fresh with latch := true } } } }
    let chosen := fun (s : State) => (choose (s.readySet b)).map (fun c => (c.record.number, c.record.kind))
    ({ jumped with sched := { jumped.sched with next := .cue 110 } } : State).readySet b = []
      ∧ chosen jumped = some (80, .timed) ∧ jumped.dwellRun b = true ∧ (dwelt 15).dwellRun b = false
      ∧ chosen (dwelt 15) = some (80, .timed)
      ∧ ((jumped.readySet b).take 1).all (fun d => decide (d.record.number < 80)) = true
      ∧ (jumped.readySet b)[1]?.map (fun c => c.record.number) = some 80
      ∧ chosen follow = some (30, .follow) ∧ follow.dwellRun b = true
      ∧ chosen stage = some (50, .stage) ∧ stage.dwellRun b = true
      ∧ ({ jumped with sched := Scheduler.fresh } : State).sched.live.cue = none
      ∧ jumped.sched.live.cue = some 65 ∧ ((jumped.cue? 65).bind (fun c => c.record.dwellMs)) = none
      ∧ jumped.params.defaultDwell = 1500 ∧ b.periodMs = 20 ∧ (1500 + 20 - 1) / 20 = 75
      ∧ (dwelt 75).dwellRun b = true ∧ (dwelt 74).dwellRun b = false := by decide +kernel

/-- At sweep 1010 cue 80's dwell count rises to 9, and 10 are needed. -/
theorem witness_DwellProtectsTheLiveCue :
    let s := holding 10 8
    s.bus.schedulerDue = [boundary 1010 1205000] ∧ s.sched.pendingGo = none ∧ s.sched.live.cue = some 80
      ∧ (s.cue? 80).map (fun c => c.record.dwellMs.getD 1500) = some 200 ∧ s.sched.noRise = false
      ∧ min (s.sched.dwell + 1) 1000 < (200 + 20 - 1) / 20 ∧ (∀ c ∈ s.cues, c.record.cut = false)
      ∧ leads .schedulerBoundary s (fun t => t.sched.next = .cue 90) = true := by decide +kernel

/-- A commit report of cue 50. -/
def report50 : CommitReport :=
  { cue := 50, trigger := .go, sweep := 2401, position := none, dark := false, shadow := false, clipped := []
    missing := [], partialScreens := [] }

theorem witness_CommitReportMakesTheCueLive :
    ({ house with reports := [report50] } : State).reports = report50 :: [] := rfl

/-- Nine hundred and ten pages of 288 glyphs, and one of 64: the pool of 262,144 is full. -/
def poolPage (k : Nat) : Page :=
  { id := k + 1, lane := 0
    lines := if k < 910 then List.replicate 3 (List.replicate 96 space) else [List.replicate 64 space] }
def poolPages : List Page := (List.range 911).map poolPage
def pool : State := { house with pages := poolPages }

theorem pool_is : pool.pages = poolPages := by simp only [pool]

theorem pool_glyphs : (poolPages.map (fun q => (q.lines.map List.length).sum)).sum = 262144 := by
  have h : ∀ k, ((poolPage k).lines.map List.length).sum = if k < 910 then 288 else 64 := by
    intro k; unfold poolPage; split <;> simp [*]
  rw [poolPages, List.map_map]
  rw [show ((fun q : Page => (q.lines.map List.length).sum) ∘ poolPage) = fun k => if k < 910 then 288 else 64 from
    funext h]
  decide +kernel

theorem pool_ids (q : Page) (h : q ∈ poolPages) : 1 ≤ q.id ∧ q.id ≤ 911 := by
  rw [poolPages] at h
  obtain ⟨k, hk, rfl⟩ := List.mem_map.mp h
  have := List.mem_range.mp hk
  show 1 ≤ k + 1 ∧ k + 1 ≤ 911
  omega

theorem pool_pages : PagesOk poolPages := by
  refine ⟨?_, fun q h => ⟨(pool_ids q h).1, le_trans (pool_ids q h).2 (by decide)⟩, le_of_eq pool_glyphs⟩
  rw [poolPages, List.pairwise_map]
  exact List.pairwise_lt_range.imp (fun h => Nat.succ_lt_succ h)

theorem house_uses (i : Fin 4) (id : Nat) (shown : Shown)
    (h : (house.screens.get i).live = shown ∨ (house.screens.get i).pendingShown = some shown)
    (hs : shown.source.page? = some id) : id = 100 ∨ id = 200 := by
  rcases h with h | h
  · subst h
    fin_cases i <;> simp_all [house, showing, Screen.fresh, Four.get, Source.page?]
  · exfalso
    revert h
    fin_cases i <;> simp [house, showing, Screen.fresh, Four.get]

theorem codes_fit (lines : List (List Glyph))
    (h : lines.all (fun l => decide (l.length ≤ 96) && l.all (fun g => decide (0x20 ≤ g.toNat))) = true) :
    ∀ l ∈ lines, l.length ≤ 96 ∧ ∀ g ∈ l, 0x20 ≤ g.toNat := by
  simpa [List.all_eq_true] using h

/-- A page held and live, held and unused, new; the pool full; an id 0 and 4,096. -/
theorem witness_PagesAreLoadedAndDeleted :
    (∀ k body, Waiting (asked house k body) k body []) ∧ (∀ k body, Waiting (asked pool k body) k body [])
      ∧ PagesOk house.pages ∧ pool.pages = poolPages ∧ PagesOk poolPages
      ∧ [page 0 0 [], page 1 0 [], page 4095 3 (glyphs 96), page 100 0 [], page 110 0 [], page 912 0 [space]].all
          (fun p => decide (parsePage (pageBytes p) = some p)) = true
      ∧ ¬ PageInRange (page 0 0 []) ∧ ¬ PageInRange (page 1 4 []) ∧ PageInRange (page 1 0 [])
      ∧ PageInRange (page 4095 3 (glyphs 96)) ∧ PageInRange (page 912 0 [space])
      ∧ PageInUse house 100 ∧ ¬ PageInUse house 110 ∧ (∃ q ∈ house.pages, q.id = 100) ∧ (∃ q ∈ house.pages, q.id = 110)
      ∧ (¬ ∃ q ∈ house.pages, q.id = 1) ∧ (¬ ∃ q ∈ house.pages, q.id = 4095)
      ∧ (¬ ∃ q ∈ poolPages, q.id = 912)
      ∧ (poolPages.map (fun q => (q.lines.map List.length).sum)).sum = 262144 := by
  have fits : ∀ p ∈ [page 1 0 [], page 4095 3 (glyphs 96), page 912 0 [space]], PageInRange p := by
    have h : ∀ p ∈ [page 1 0 [], page 4095 3 (glyphs 96), page 912 0 [space]], (1 ≤ p.id ∧ p.id ≤ 4095)
        ∧ p.lane ≤ 3 ∧ (1 ≤ p.lines.length ∧ p.lines.length ≤ 3) ∧ p.lines.all (fun l =>
          decide (l.length ≤ 96) && l.all (fun g => decide (0x20 ≤ g.toNat))) = true := by decide +kernel
    intro p hp
    obtain ⟨ids, lane, count, codes⟩ := h p hp
    exact ⟨ids, lane, count, codes_fit _ codes⟩
  refine ⟨fun k b => (waits_in k b).2.2.2.1, fun k b => asked_waiting _ _ _ rfl rfl rfl
    , ⟨by decide +kernel, by decide +kernel, by decide +kernel⟩, pool_is, pool_pages
    , by decide +kernel, fun h => absurd h.id (by decide), fun h => absurd h.lane (by decide)
    , fits _ (by simp), fits _ (by simp), fits _ (by simp)
    , ⟨0, { source := .cue 40 100, found := true }, Or.inl (by decide +kernel), by decide +kernel, by decide +kernel⟩
    , ?_, by decide +kernel, by decide +kernel, by decide +kernel, by decide +kernel, ?_, pool_glyphs⟩
  · rintro ⟨i, shown, h, -, hs⟩
    exact absurd (house_uses i 110 shown h hs) (by decide)
  · rintro ⟨q, h, hq⟩
    have := (pool_ids q h).2
    omega

theorem witness_SetScreenStartsAfresh :
    let flying : State := { fired [] 0 with sched := Scheduler.fresh }
    (∀ s ∈ [house, idle, flying], Waiting (asked s kSetScreen []) kSetScreen [] [])
      ∧ house.sched.mode ≠ .idle ∧ idle.sched.mode = .idle ∧ ¬ Flying idle ∧ Flying flying
      ∧ ¬ SetupInRange ⟨0, [], 8⟩ ∧ ¬ SetupInRange ⟨4, [16], 8⟩ ∧ SetupInRange ⟨0, [1], 8⟩ ∧ SetupInRange ⟨3, [16, 11], 64⟩
      ∧ (∃ a ∈ ([3] : List Nat), a ∈ (idle.screens.get 0).tiles) ∧ (∀ j, 1 ∉ (idle.screens.get j).tiles)
      ∧ ∀ j, ∀ a ∈ [16, 11], a ∉ (idle.screens.get j).tiles := by
  refine ⟨?_, by decide +kernel, by decide +kernel, ?_, ?_, fun h => absurd h.tiles (by decide)
    , fun h => absurd h.lane (by decide), by constructor <;> decide, by constructor <;> decide
    , by decide +kernel, by decide +kernel, by decide +kernel⟩
  · simp only [List.mem_cons, List.not_mem_nil, or_false]
    rintro s (rfl | rfl | rfl) <;> exact asked_waiting _ _ _ rfl rfl rfl
  all_goals (simp only [Flying]; decide +kernel)

/-- Screens 0 and 1 take pages of their lanes; screen 2 is disabled, screen 4 and lane 4 do not exist. -/
theorem witness_OverrideEditsAndGroups :
    (∀ kind ∈ [kShowPage, kClearOverride, kGroupHold, kGroupRelease],
        Waiting (asked house kind []) kind [] [])
      ∧ house.page? 250 ≠ none ∧ house.page? 1 = none
      ∧ leads (.showPage 250 (.screen 1)) (asked house kShowPage []) (fun t => lastReply t = some (.ok, .edit .issued []))
        = true := ⟨fun _ _ => (waits_in _ _).2.2.2.1, by decide +kernel⟩

/-- The house with its flag on, with an edit held, with an initial blank, and with a reissue. -/
def flagged : State := { house with sched := { house.sched with blackout := true } }
def editing : State := { house with screens := { house.screens with s1 := { house.screens.s1 with edit := some (.set 250) } } }
def fresh0 : State := { house with screens := { house.screens with s0 := { house.screens.s0 with initialBlank := true } } }
def again : State := { house with screens := { house.screens with s0 := { house.screens.s0 with reissue := true } } }
def firing50 : Firing := { cue := 50, trigger := .go, record := (pair 50 110 210).record }

/-- Builds that hand nothing over, with and without a takeover; and builds with a firing, an edit of a source alone, an
initial blank, a reissue and the blackout flag, that do. -/
theorem witness_BuildGivesEachScreenItsInstruction :
    (house.build none [] false).change = none ∧ (house.build none [] true).change = none
      ∧ (house.build (some firing50) [] false).change.isSome = true
      ∧ (house.build (some firing50) [] true).change.isSome = true
      ∧ (fired [] 0).change.isSome = true
      ∧ ({ editing with groupHold := true } : State).build none [] false = { editing with groupHold := true }
      ∧ tags (editing.build none [] false) = some [(1, .swap 5)]
      ∧ tags (fresh0.build none [] false) = some [(0, .blank)] ∧ tags (again.build none [] false) = some [(0, .swap 8)]
      ∧ tags (flagged.build none [] false) = some [(0, .blank), (1, .blank)]
      ∧ tags (house.build (some { firing50 with record := manual 50 }) [] false) = some [(0, .blank), (1, .blank)]
      ∧ tags (house.build (some { firing50 with record := (pair 50 100 200).record }) [] false) =
        some [(0, .none), (1, .none)]
      ∧ (house.build (some { firing50 with record := (pair 50 999 210).record }) [] false).change.map (fun c => c.missing) =
        some [0]
      ∧ ((house.bus.tiles.filter (fun t => (house.screens.get 0).tiles.contains t.address)).flatMap (fun t =>
          t.heldTags)).length ≤ 253 := by decide +kernel

theorem witness_LayoutFillsTheTiles :
    (glyphs 48).length ≤ 48 ∧ 48 < (glyphs 49).length ∧ left.tiles[0]? = some 3 ∧ left.tiles[2]? = some 5
      ∧ 2 < 3 ∧ 15 < left.cpt := by decide +kernel

/-- A state in the period of a reset. -/
def inPeriod (p : ResetPeriod) (s : State) : State :=
  { s with resetUnit := { s.resetUnit with period := some p } }

/-- A full reset's and a show-safe reset's period, each with a restart under way since 0. -/
def fullPeriod : ResetPeriod := { showSafe := false, cause := .power, power := true, line := false, restart := some 0 }
def safePeriod : ResetPeriod := { showSafe := true, cause := .request, power := false, line := false, restart := some 0 }

/-- The timer of State.reset runs 20,000 µs from 0; in each period, and with no timer. -/
theorem witness_SweepBoundaryReachesThreeBlocks :
    State.reset.bus.timer = some { start := 0, length := 20000 } ∧ State.reset.resetUnit.period = none
      ∧ 20000 ≤ ((20000 : ShowTime) - 0).toNat ∧ ((19999 : ShowTime) - 0).toNat < 20000
      ∧ (inPeriod safePeriod State.reset).resetUnit.period = some safePeriod ∧ safePeriod.showSafe = true
      ∧ (inPeriod fullPeriod State.reset).resetUnit.period = some fullPeriod ∧ fullPeriod.showSafe = false
      ∧ ({ State.reset.bus with timer := none } : PanelBus).timer = none := by decide +kernel

/-- A house with a boundary due for the controller. -/
def due (s : State) : State := { s with showClock := 60000, bus := { s.bus with controllerDue := [boundary 2401 60000] } }

/-- Each of these states finds no partial mark to clear, or one. -/
theorem no_clearing {l : List State} (h : ∀ s ∈ l, s.resetUnit.period = none ∧ ∀ i : Fin 4, ¬ ClearDue s i) :
    ∀ s ∈ l, NoClearing s := fun s m => ⟨(h s m).1, (h s m).2⟩

/-- The change in flight gives a screen SWAP, as a test. -/
def swapIn (s : State) : Bool :=
  s.change.any (fun c => c.entries.any (fun e => match e.instr with | .swap _ => true | _ => false))

theorem gives_iff (s : State) : GivesSwap s ↔ swapIn s = true := by
  have h : ∀ e : Entry, (match e.instr with | .swap _ => true | _ => false) = true ↔ ∃ tag, e.instr = .swap tag := by
    intro e; split <;> simp_all
  simp only [swapIn, GivesSwap, Option.any_eq_true, List.any_eq_true, Option.mem_def, h]

/-- The house with both screens blank, with a partial mark on screen 0 that PARTIAL_POLICY keeps or not, and in another
ownership state. -/
def blank : State :=
  { house with screens := house.screens.mapIdx (fun _ c => { c with live := { source := .blank none, found := false }
                                                                    liveTag := 0 }) }
def torn (s : State) : State :=
  { s with screens := { s.screens with s0 := { s.screens.s0 with partialMark := true } } }
def owned (state : OwnerState) (s : State) : State :=
  { s with own := { s.own with state := state, drive := false, grant := decide (state = .granted) } }

/-- The fired house with its tiles 3, 5, 9 and 10 acknowledged, RELEASING with its change held. -/
def held (acked : List Nat) : State :=
  { owned .releasing (fired acked 0) with own := { (owned .releasing (fired acked 0)).own with heldChange := true } }

/-- Tile 4's repair ready for a mark of screen 0 (tag 7). -/
def repaired (s : State) : State :=
  { s with bus := { s.bus with tiles := s.bus.tiles.map (fun t =>
    if t.address = 4 then { t with repairDue := true, repairTag := some 7 } else t) } }

/-- The link in another state, its counts given. -/
def linked (link : LinkState) (quiet mark wake : Nat) (s : State) : State :=
  { due s with bus := { (due s).bus with link := link, quietCount := quiet, sinceMark := mark, sinceWake := wake } }

/-- A boundary's mark in DRIVING at rest and not, with a repair, and in SHADOW and GRANTED; with an acknowledgement
outstanding, in DRIVING and RELEASING; with a partial mark to clear; and in a show-safe reset's period, the link in each
state. -/
theorem witness_MarksWithoutACommit :
    (∀ s ∈ [due house, due blank, due (repaired house), owned .granted (due house), owned .shadow (due house)
        , fired [3, 5, 9, 10] 0, held [3, 5, 9, 10]], NoClearing s)
      ∧ (∀ s ∈ [due house, due blank, due (repaired house)], s.bus.controllerDue = [boundary 2401 60000]
          ∧ s.own.state = .driving ∧ s.bus.link = .active ∧ s.change = none
          ∧ (CouldRest s → s.bus.quietCount + 1 < s.params.quietDelay))
      ∧ ¬ CouldRest (due house) ∧ CouldRest (due blank) ∧ repairGiven (due (repaired house)) 0 = some .swap
      ∧ (owned .granted (due house)).own.state = .granted ∧ (owned .shadow (due house)).change = none
      ∧ (∀ s ∈ [fired [3, 5, 9, 10] 0, held [3, 5, 9, 10]], Marks s ∧ s.bus.link = .active
          ∧ s.change.map (fun c => (c.required, c.acked, c.markCount, c.whole)) =
            some ([3, 4, 5, 9, 10], [3, 5, 9, 10], 0, true) ∧ 0 + 1 < s.params.graceSweeps)
      ∧ (∀ s ∈ [torn (due house), torn (owned .granted (due house)), torn (owned .shadow (due house))],
          ClearDue s 0 ∧ s.resetUnit.period = none ∧ s.bus.controllerDue = [boundary 2401 60000] ∧ ¬ CouldRest s
            ∧ s.change = none ∧ s.bus.tiles.map (fun t => t.address) = (List.range 16).map (fun k => k + 1))
      ∧ (∀ s ∈ [linked .active 0 0 0 house, linked .quiet 0 15 0 house, linked .quiet 0 14 0 house
          , linked .waking 0 0 0 house, linked .waking 0 0 1 house],
          (inPeriod safePeriod s).resetUnit.period ≠ none ∧ s.own.state = .driving ∧ s.change = none)
      ∧ 16 ≤ 15 + 1 ∧ 14 + 1 < 16 ∧ 0 + 1 < 2 ∧ 2 ≤ 1 + 1 :=
  ⟨no_clearing (by decide +kernel), by and_intros <;> decide +kernel⟩

/-- Every tile has acknowledged, in DRIVING and RELEASING; a change in SHADOW; RELEASING with nothing held, GRANT high
or low, a change in flight or not. -/
theorem witness_AcknowledgedChangeCommits :
    let whole := [3, 4, 5, 9, 10]
    let shadow := owned .shadow (fired [] 0)
    let ending := fun (grant : Bool) (s : State) =>
      ({ owned .releasing s with own := { (owned .releasing s).own with grant := grant } } : State)
    (∀ s ∈ [fired whole 0, held whole, shadow, ending true (due house), ending false (due house), ending true (fired [] 0)
        , ending false (fired [] 0)], NoClearing s)
      ∧ (∀ s ∈ [fired whole 0, held whole], s.bus.controllerDue = [boundary 2403 60000] ∧ Marks s ∧ s.bus.link = .active
          ∧ s.change.map (fun c => c.required.all (fun a => c.acked.contains a)) = some true)
      ∧ shadow.own.state = .shadow ∧ shadow.change ≠ none
      ∧ (∀ grant ∈ [true, false], ∀ s ∈ [due house, fired [] 0, inPeriod safePeriod (due house)],
          (ending grant s).own.state = .releasing ∧ (ending grant s).own.heldChange = false
            ∧ (ending grant s).own.grant = grant)
      ∧ (due house).change = none ∧ (fired [] 0).change ≠ none ∧ (inPeriod safePeriod house).resetUnit.period ≠ none :=
  ⟨no_clearing (by decide +kernel), by decide +kernel⟩

/-- Tile 4 has not, and the count is 2, in DRIVING and RELEASING. -/
theorem witness_GraceForcesTheCommit :
    let late := { held [3, 5, 9, 10] with change := (fired [3, 5, 9, 10] 2).change }
    (∀ s ∈ [fired [3, 5, 9, 10] 2, late], NoClearing s)
      ∧ (∀ s ∈ [fired [3, 5, 9, 10] 2, late], s.bus.controllerDue = [boundary 2403 60000] ∧ Marks s
          ∧ s.bus.link = .active ∧ s.change.map (fun c => (c.required, c.acked, c.whole, c.markCount)) =
            some ([3, 4, 5, 9, 10], [3, 5, 9, 10], true, 2)
          ∧ s.params.graceSweeps ≤ 2 + 1) :=
  ⟨no_clearing (by decide +kernel), by decide +kernel⟩

/-- A survey under way whose next address this is. -/
def surveying (next : Nat) (s : State) : State := { s with survey := { Survey.fresh with running := true, nextAddress := next } }

/-- A dark change's BLANKs, that give no SWAP. -/
def darkening : State :=
  { (after .blackout (asked house kBlackout []) id).getD house with port := house.port }

/-- The 50th boundary at rest and the 49th, with a survey and without; in QUIET the 16th and the 15th since the last
mark, a change that gives SWAP and one that gives none; in WAKING the first and the second boundary after the wake mark,
with each of them, and with a change whose required set is empty. -/
theorem witness_TheLinkRestsAndWakes :
    (∀ s ∈ [linked .active 49 0 0 blank, linked .active 48 0 0 blank, surveying 3 (linked .active 49 0 0 blank)
        , linked .quiet 0 15 0 blank, linked .quiet 0 14 0 blank, linked .quiet 0 3 0 (fired [] 0)
        , linked .quiet 0 3 0 darkening, linked .waking 0 0 0 (fired [] 0), linked .waking 0 0 0 darkening
        , linked .waking 0 0 1 (fired [] 0), linked .waking 0 0 1 darkening], NoClearing s)
      ∧ (∀ s ∈ [linked .active 49 0 0 blank, surveying 3 (linked .active 49 0 0 blank)],
          CouldRest s ∧ s.params.quietDelay ≤ s.bus.quietCount + 1 ∧ s.own.state = .driving)
      ∧ (linked .active 48 0 0 blank).bus.quietCount + 1 < (linked .active 48 0 0 blank).params.quietDelay
      ∧ (linked .active 49 0 0 blank).survey.running = false ∧ (surveying 3 blank).survey.running = true
      ∧ Marks (linked .quiet 0 15 0 blank) ∧ (linked .quiet 0 15 0 blank).change = none ∧ 16 ≤ 15 + 1 ∧ 14 + 1 < 16
      ∧ GivesSwap (fired [] 0) ∧ ¬ GivesSwap darkening ∧ darkening.change.map (fun c => c.required) = some []
      ∧ Marks (linked .waking 0 0 0 (fired [] 0)) ∧ Marks (linked .waking 0 0 1 darkening) ∧ 0 + 1 < 2 ∧ 2 ≤ 1 + 1 := by
  refine ⟨no_clearing (by decide +kernel), ?_⟩
  simp only [gives_iff]
  decide +kernel

/-- An interval of 31 slots with these slots gone. -/
def slots (next : Nat) (attempted : List Nat) : Interval :=
  { sweep := 2403, start := 60000, slots := 31, next := next, busy := next, attempted := attempted, failed := []
    retried := [], repaired := [], carries := true, surveyed := false }

/-- The fired house in such an interval, at the start of its next slot. -/
def inSlots (next : Nat) (attempted : List Nat) (s : State) : State :=
  { s with showClock := 60000 + 1000 + BitVec.ofNat 32 (600 * next)
           bus := { s.bus with interval := some (slots next attempted) } }

/-- Tile 4 OUT, or due a repair with its segment kept. -/
def outTile (s : State) : State :=
  { s with bus := { s.bus with tiles := s.bus.tiles.map (fun t => if t.address = 4 then { t with state := .out } else t) } }
def mending (s : State) : State :=
  { s with
    screens := { s.screens with s0 := { s.screens.s0 with kept := [⟨4, List.replicate 48 space⟩] } }
    bus := { s.bus with tiles := s.bus.tiles.map (fun t => if t.address = 4 then { t with repairDue := true } else t) } }

/-- The interval's first attempts that went unacknowledged, and whether it began in a survey. -/
def missed (failed : List Nat) (surveyed : Bool) (s : State) : State :=
  { s with bus := { s.bus with
    interval := s.bus.interval.map (fun iv => { iv with failed := failed, surveyed := surveyed }) } }

/-- What a slot carries: the frame's kind and its tile. -/
def carried (s : State) : Option (Option (SlotFrame × Nat)) :=
  after .slotStart s (fun t => t.bus.window.map (fun w => (w.frame, w.tile)))

/-- Tile 9's first attempt after screen 0's three tiles; tile 4's retry when all have been tried; its repair frame with
nothing to transfer; a silent slot, in a survey and out of one; in slot 30 the survey's poll with no tile OUT and with
tile 4 OUT on the survey's turn; the poll of tile 4 in no survey, in an interval a survey did not begin, and on the
other turn; and with no tile OUT, in an interval a survey did not begin, silence although first attempts wait; past the 16th address, silence and the poll of tile 4. -/
theorem witness_SlotsCarryFramesAndPolls :
    let first := inSlots 3 [3, 4, 5] (fired [] 0)
    let retry := missed [4] false (inSlots 7 [3, 4, 5, 9, 10] (fired [] 0))
    let repair := inSlots 3 [] (mending house)
    let idle := inSlots 3 [] house
    let last := fun (turn : SurveyTurn) (s : State) =>
      missed [] true (inSlots 30 [] { s with survey := { Survey.fresh with running := true, nextAddress := 16, turn := turn } })
    let begun := fun (next : Nat) (s : State) => inSlots next [] { s with survey := { Survey.fresh with running := true } }
    let asked := fun (s : State) =>
      missed [] true (inSlots 30 [] { s with survey := { Survey.fresh with running := true, nextAddress := 17 } })
    (∀ s ∈ [first, retry, repair, idle, last .out house, last .survey (outTile house), last .out (outTile house)
        , inSlots 30 [] (outTile house), begun 29 house, begun 30 (fired [] 0)],
        s.resetUnit.period = none ∧ s.own.state = .driving ∧ s.bus.window = none ∧ s.bus.interval.any (fun iv =>
          iv.carries && decide (iv.busy ≤ iv.next ∧ 1000 + 600 * iv.next ≤ (s.showClock - iv.start).toNat)) = true)
      ∧ [first, retry, repair, idle, begun 29 house, begun 28 (fired [] 0), begun 30 (fired [] 0), asked house].map carried =
        [some (some (.first, 9)), some (some (.retry, 4)), some (some (.repair, 4)), some none, some none
          , some (some (.first, 3)), some none, some none]
      ∧ [last .out house, last .survey (outTile house)].map carried =
        [some (some (.surveyPoll, 16)), some (some (.surveyPoll, 16))]
      ∧ [last .out (outTile house), missed [] false (last .survey (outTile house)), inSlots 30 [] (outTile house), asked (outTile house)].map
          carried = [some (some (.outPoll, 4)), some (some (.outPoll, 4)), some (some (.outPoll, 4)), some (some (.outPoll, 4))]
      ∧ first.change.map (fun c => c.entries.map (fun e => (e.instr, e.segments.map (fun g => g.tile)))) =
        some [(.swap 8, [3, 4, 5]), (.swap 5, [9, 10])]
      ∧ first.change.map (fun c => (c.required, c.acked)) = some ([3, 4, 5, 9, 10], [])
      ∧ (first.screens.get 1).setup = some right ∧ (right.cpt + 15) / 16 = 2 ∧ 3 + 2 ≤ 31
      ∧ repair.screenOf 4 = some 0 ∧ (repair.screens.get 0).liveTag = 7 ∧ (∀ x, x < 17 → idle.isOut x = false)
      ∧ (outTile house).isOut 4 = true ∧ (∀ x, x < 17 → (outTile house).isOut x = true → x = 4)
      ∧ (outTile house).bus.pollPosition = 1
      ∧ (outTile house).bus.tiles.map (fun t => t.address) = (List.range 16).map (fun k => k + 1) :=
  ⟨by decide +kernel, by decide +kernel, by decide +kernel, by decide +kernel, by decide +kernel⟩

/-- A frame's reply window, at its opening and at its close. -/
def windowed (frame : SlotFrame) (now : ShowTime) (s : State) : State :=
  { s with
    showClock := now
    bus :=
      let window : Window :=
        { frame := frame, sweep := 2403, tile := 4, tag := 8, opens := 61300, closes := 61600, answered := false }
      { s.bus with window := some window } }

theorem witness_AcknowledgementsAreTaken :
    ((windowed .first 61300 (fired [] 0)).openWindow.isSome = true)
      ∧ (windowed .repair 61600 house).openWindow.isSome = true ∧ (windowed .first 61299 house).openWindow = none
      ∧ (windowed .first 61601 house).openWindow = none ∧ parseAck [] = none
      ∧ (∀ f ∈ [SlotFrame.outPoll, .surveyPoll], (windowed f 61300 house).openWindow.map (fun w => w.frame) = some f)
      ∧ parseAck (busEnvelope 0x82 4 [8]) = some (4, 8)
      ∧ parseAck (busEnvelope 0x82 5 [8]) = some (5, 8) ∧ parseAck (busEnvelope 0x82 4 [255]) = some (4, 255) := by
  decide +kernel

/-- Answers from the tile polled and from another, in a poll's window, a content frame's and none; a survey whose 16th
poll's window closes, and one whose 15th does. -/
theorem witness_PollAnswersAndClosingWindows :
    (∀ f ∈ [SlotFrame.outPoll, .surveyPoll], (windowed f 61300 house).openWindow.isSome = true)
      ∧ (∀ f ∈ [SlotFrame.first, .retry, .repair], (windowed f 61300 house).openWindow.map (fun w => w.frame) = some f)
      ∧ (windowed .outPoll 61299 house).openWindow = none ∧ parsePollReply [] = none
      ∧ (∀ a ∈ [4, 5], (parsePollReply (busEnvelope 0x83 a [7, 8, 32, 0])).map (fun r => (r.tile, r.capacity)) =
          some (a, 32))
      ∧ (∀ f ∈ [SlotFrame.first, .retry, .repair, .outPoll, .surveyPoll],
          (windowed f 61600 house).bus.window.map (fun w => (w.frame, w.answered)) = some (f, false)
            ∧ (windowed f 61600 house).resetUnit.period = none)
      ∧ ((61600 : ShowTime) - 61600).toNat < 2 ^ 31
      ∧ (surveying 16 house).survey.nextAddress ≤ 16 ∧ 16 < (surveying 17 house).survey.nextAddress
      ∧ (surveying 17 house).survey.running = true := by decide +kernel

/-- A dark house with the flag off, as a LIFT whose restore waits leaves it. -/
def dark : State :=
  { house with screens := house.screens.mapIdx (fun _ c => { c with live := { source := .dark, found := false } }) }

theorem witness_BlackoutAndLift :
    (∀ s ∈ [house, dark, { house with sched := { house.sched with blackout := true } }, fired [] 0],
        ∀ kind ∈ [kBlackout, kLift], Waiting (asked s kind []) kind [] [])
      ∧ house.sched.blackout = false ∧ (house.screens.get 0).live.source ≠ .dark ∧ dark.change = none
      ∧ (dark.screens.get 0).live.source = .dark ∧ (dark.screens.get 1).live.source = .dark
      ∧ (fired [] 0).change ≠ none := by
  refine ⟨?_, by decide +kernel⟩
  simp only [List.mem_cons, List.not_mem_nil, or_false]
  rintro s (rfl | rfl | rfl | rfl) kind _ <;> exact asked_waiting _ _ _ rfl rfl rfl

/-- The receivers in the middle of a record and of a frame, the last byte taken at 0. -/
def receiving : State :=
  { house with
    port := { house.port with receiver := { phase := .body, length := 3, bytes := [0, 3, 1], lastByte := 0 } }
    listener := { house.listener with receiver := { phase := .body, length := 3, bytes := [3], lastByte := 0 } } }

/-- Bodies of 0 and 1,000 bytes, a wrong check, the lengths 0 and 1,002, a silence of 2,001 µs and one of 2,000. -/
theorem witness_RecordsAreReceived :
    (inPeriod fullPeriod house).resetUnit.period ≠ none ∧ house.resetUnit.period = none
      ∧ (house.ready = true ∧ (inPeriod fullPeriod house).ready = false)
      ∧ house.port.receiver.phase = .hunt ∧ ([] : List Byte).length ≤ 1000
      ∧ (List.replicate 1000 (0xC3 : Byte)).length ≤ 1000
      ∧ ([0, 0] : List Byte) ≠ checkBytes (crc (be16 (0 + 1) ++ [0x01]))
      ∧ ((0 : Byte).toNat * 256 + (0 : Byte).toNat = 0) ∧ 1001 < (3 : Byte).toNat * 256 + (234 : Byte).toNat
      ∧ (0xC2 : Byte) ≠ 0xC3 ∧ receiving.port.receiver.phase ≠ .hunt
      ∧ 2000 < ((at' 2001 receiving).showClock - receiving.port.receiver.lastByte).toNat
      ∧ ((at' 2000 receiving).showClock - receiving.port.receiver.lastByte).toNat ≤ 2000 := by decide +kernel

/-- A POSITION notice and another one. -/
def position : Notice := .position none 1200 .free
def silent : Notice := .peerSilent none 3 false
def answered : Reply := { kind := 0xA2, taken := true, status := .ok, body := .goFired 50 }

/-- The transmitter free or not, replies or not, notices or not; a queue with a POSITION, short or full, and one
without. -/
theorem witness_RepliesAndNoticesAreSent :
    (inPeriod fullPeriod house).resetUnit.period ≠ none ∧ house.resetUnit.period = none ∧ house.port.sending = none
      ∧ ({ house.port with replies := [answered] } : ControlPort).replies = answered :: []
      ∧ house.port.replies = [] ∧ house.port.notices.length = 1
      ∧ ({ house.port with notices := [] } : ControlPort).notices = []
      ∧ ({ house.port with sending := some (.notice silent) } : ControlPort).sending = some (.notice silent)
      ∧ ({ house.port with sending := some (.reply answered 0) } : ControlPort).sending = some (.reply answered 0)
      ∧ answered.kind ≠ 0x85
      ∧ ([] ++ position :: List.replicate 31 silent).length = 32 ∧ position.isPosition = true
      ∧ silent.isPosition = false ∧ (∀ x ∈ [] ++ List.replicate 31 silent, x.isPosition = false)
      ∧ (List.replicate 31 silent).length < 32 ∧ 32 ≤ (List.replicate 32 silent).length := by decide +kernel

/-- A request of each kind waits; the top bit set or not; a body where there should be none; no request taken in a
period, after a RESTART, behind a taken reply, or with another kind at the head. -/
theorem witness_RequestsAreTakenAndAnswered :
    (∀ kind body, Waiting (asked house kind body) kind body [])
      ∧ 128 ≤ (0x80 : Byte).toNat ∧ (0x7F : Byte) ∉ requestCodes ∧ (0x00 : Byte) ∉ requestCodes
      ∧ (0x41 : Byte) ∈ requestCodes
      ∧ (bareRequests ⟨4, []⟩).all (fun c => (requestKind c).isSome) = true
      ∧ parseCue [] = none ∧ parsePage [] = none
      ∧ (inPeriod fullPeriod (asked house 0x22 [])).resetUnit.period ≠ none
      ∧ ({ house.port with restartTaken := true } : ControlPort).restartTaken = true
      ∧ (∃ r ∈ ({ house.port with replies := [answered] } : ControlPort).replies, r.taken = true)
      ∧ (∀ r ∈ (asked house 0x22 []).port.requests.head?, r.kind ≠ 0x23)
      ∧ (∀ r ∈ house.port.requests.head?, r.kind ≠ 0x22) :=
  ⟨fun k b => (waits_in k b).2.2.2.1, by decide +kernel⟩

theorem witness_ParametersAreSetAndRead :
    ∀ body, Waiting (asked house 0x03 body) 0x03 body [] ∧ Waiting (asked house 0x04 body) 0x04 body [] :=
  fun b => ⟨(waits_in _ b).2.2.2.1, (waits_in _ b).2.2.2.1⟩

/-- The RESET line low in and out of a period, high, and each event that ends one. -/
theorem witness_FullResets :
    house.resetUnit.line = false ∧ house.resetUnit.period = none
      ∧ (inPeriod safePeriod house).resetUnit.period = some safePeriod ∧ safePeriod.showSafe = true
      ∧ ({ house.resetUnit with line := true } : ResetUnit).line = true
      ∧ (inPeriod fullPeriod house).resetUnit.period = some fullPeriod ∧ fullPeriod.showSafe = false
      ∧ fullPeriod.restart = some 0 ∧ ((50000 : ShowTime) - (0 + 50000)).toNat < 2 ^ 31
      ∧ State.reset.resetUnit.line = false ∧ State.reset.own.grant = false ∧ State.reset.own.peerDrive = false := by
  decide +kernel

/-- The reply to a RESTART. -/
def restartReply : Reply := { kind := 0x85, taken := true, status := .ok, body := .empty }

def restarting : State :=
  { fired [] 0 with port := { house.port with sending := some (.reply restartReply 0), restartTaken := true } }

theorem witness_ShowSafeResets :
    house.resetUnit.line = false ∧ house.resetUnit.period = none ∧ house.reports = []
      ∧ restarting.port.sending = some (.reply restartReply 0) ∧ restarting.port.restartTaken = true
      ∧ restarting.reports = []
      ∧ restartReply.taken = true ∧ restartReply.kind = 0x85 ∧ restartReply.status = .ok
      ∧ (inPeriod safePeriod house).resetUnit.period = some safePeriod
      ∧ safePeriod.showSafe = true ∧ safePeriod.power = false ∧ safePeriod.line = false ∧ safePeriod.restart = some 0
      ∧ ({ safePeriod with restart := none } : ResetPeriod).restart = none
      ∧ ((50000 : ShowTime) - (0 + 50000)).toNat < 2 ^ 31 ∧ 2 ^ 31 ≤ ((49999 : ShowTime) - (0 + 50000)).toNat := by
  decide +kernel

/-- A part in SHADOW at a boundary of its own, the mirror current, its screens agreeing with it or not. -/
def shadow (agree : Bool) (silence divergence : Nat) (follow : Bool) : State :=
  { owned .shadow house with
    showClock := 60000
    params := { Params.defaults with shadowFollow := follow }
    mirror := { Mirror.fresh with
      current := true, number := 2401, silence := silence, divergence := divergence
      screens := { Mirror.fresh.screens with
        s0 := peerEntry 100 7
        s1 := if agree then peerEntry 200 4 else { peerEntry 220 4 with cue := some 70 } } }
    bus := { house.bus with ownershipDue := [boundary 2401 60000] } }

/-- The third silent boundary and the second, a boundary by a frame; agreeing; the first and the tenth disagreeing one,
SHADOW_FOLLOW off and on; with it on: agreeing, no peer cue, and a peer cue that is not in the list. -/
theorem witness_SilenceAndDivergence :
    let byFrame := { shadow true 2 0 false with bus := { house.bus with ownershipDue := [{ boundary 2401 60000 with byPeer := true }] } }
    let naming := fun (cue : Option Nat) =>
      let s := shadow false 1 9 true
      let e := fun (x : AsShown) => { x with cue := cue }
      ({ s with mirror := { s.mirror with screens := s.mirror.screens.mapIdx (fun _ x => e x) } } : State)
    let peerCue := fun (s : State) => fourNumbers.findSome? (fun i =>
      let e := s.mirror.screens.get i
      if e.kind = SourceKind.cue ∨ e.kind = SourceKind.blank then e.cue else none)
    (∀ s ∈ [shadow true 2 0 false, shadow true 1 0 false, shadow false 1 0 false, shadow false 1 9 false
        , shadow false 1 0 true, shadow false 1 9 true, shadow true 1 0 true, naming none, naming (some 999)],
        s.bus.ownershipDue = [boundary 2401 60000] ∧ s.resetUnit.period = none ∧ s.own.state = .shadow
          ∧ s.mirror.current = true ∧ s.mirror.silent = false)
      ∧ byFrame.bus.ownershipDue = [{ boundary 2401 60000 with byPeer := true }] ∧ byFrame.own.state = .shadow
      ∧ 3 ≤ 2 + 1 ∧ ¬ 3 ≤ 1 + 1
      ∧ Agrees ((shadow true 1 0 true).screens.get 0) ((shadow true 1 0 true).mirror.screens.get 0)
      ∧ Agrees ((shadow true 1 0 true).screens.get 1) ((shadow true 1 0 true).mirror.screens.get 1)
      ∧ ¬ Agrees ((shadow false 1 0 false).screens.get 1) ((shadow false 1 0 false).mirror.screens.get 1)
      ∧ peerCue (shadow false 1 9 true) = some 40 ∧ (shadow false 1 9 true).cue? 40 ≠ none
      ∧ peerCue (naming none) = none ∧ peerCue (naming (some 999)) = some 999 ∧ (naming (some 999)).cue? 999 = none
      ∧ (shadow true 1 0 true).params.divergenceSweeps = 10 ∧ min (9 + 1) 255 = 10 ∧ ¬ 10 ≤ min (0 + 1) 255 :=
  by and_intros <;> decide +kernel

/-- The peer's first screen names cue 70, which this part holds and does not show. -/
theorem witness_SilenceAndDivergence_adopts :
    let s : State := { shadow false 1 9 true with
      mirror := { (shadow false 1 9 true).mirror with screens := { (shadow false 1 9 true).mirror.screens with
        s0 := { peerEntry 120 7 with cue := some 70 } } } }
    s.sched.live.cue ≠ some 70 ∧ ¬ Flying s ∧ s.cue? 70 ≠ none
      ∧ leads .ownershipBoundary s (fun t => (t.change.bind (fun c => c.firing)).map (fun f => (f.cue, f.trigger)) =
          some (70, .adopt)) = true := by
  simp only [Flying]
  decide +kernel

/-- A GRANTED part at a boundary of its own timer, or at a peer frame's. -/
def granted (peer : Bool) (count : Nat) (hold byPeer : Bool) : State :=
  { owned .granted house with
    params := { Params.defaults with busHold := hold }
    own := { (owned .granted house).own with peerDrive := peer, contention := count }
    bus := { house.bus with ownershipDue := [{ boundary 2401 60000 with byPeer := byPeer }] } }

/-- The fired house GRANTED, or a change that darkens it, its own link in a state, BUS_HOLD on. -/
def entering (link : LinkState) (s : State) : State :=
  { owned .granted s with
    params := { Params.defaults with busHold := true }
    bus := { s.bus with link := link, ownershipDue := [boundary 2401 60000], controllerDue := [boundary 2401 60000] } }

/-- What an entry into DRIVING leaves: the link state, how many boundaries wait for the controller, and DRIVE with the
quiet, wake and takeover flags of its first mark. -/
def entered (s : State) : Option (LinkState × Nat × List Bool) :=
  after .ownershipBoundary s (fun t => (t.bus.link, t.bus.controllerDue.length, t.own.drive :: match t.bus.busOut with
    | some (.sweep f) => [f.quiet, f.wake, f.takeover]
    | _ => []))

/-- The 25th contended boundary and the 24th, by the part's timer and by a frame; PEER_DRIVE low with and without a
reason; the first mark on a link of each state, with a change that gives SWAP, one that gives none, and none; a line test
aborted; a takeover with a firing that waits; and a partial mark to clear. -/
theorem witness_GrantedPartDrives :
    (∀ byPeer ∈ [true, false], ∀ s ∈ [granted true 24 false byPeer, granted true 23 false byPeer
        , granted false 0 false byPeer, granted false 0 true byPeer],
        s.bus.ownershipDue = [{ boundary 2401 60000 with byPeer := byPeer }] ∧ s.resetUnit.period = none
          ∧ s.own.state = .granted ∧ s.mirror.silent = false)
      ∧ (24 + 1 = 25 ∧ 23 + 1 ≠ 25)
      ∧ ((granted false 0 false false).own.peerDrive = false
        ∧ ¬ ((granted false 0 false false).params.busHold = true ∨ (granted false 0 false false).change ≠ none
          ∨ (granted false 0 false false).own.takeover = true))
      ∧ [LinkState.active, .quiet, .waking].map (fun l => entered (entering l (fired [] 0))) =
        [some (.active, 0, [true, false, false, false]), some (.waking, 0, [true, false, true, false])
          , some (.waking, 0, [true, false, true, false])]
      ∧ [LinkState.active, .quiet, .waking].map (fun l => entered (entering l darkening)) =
        [some (.active, 0, [true, false, false, false]), some (.quiet, 0, [true, true, false, false])
          , some (.waking, 0, [true, false, true, false])]
      ∧ swapIn (entering .quiet (fired [] 0)) = true ∧ swapIn (entering .quiet darkening) = false
      ∧ (∀ l ∈ [LinkState.active, .quiet, .waking], ∀ s ∈ [fired [] 0, darkening],
          ∀ i : Fin 4, ¬ ClearDue (entering l s) i)
      ∧ (entered partB = some (.active, 0, [true, false, false, true]) ∧ partB.bus.controllerDue ≠ []
        ∧ (partB.change.bind (fun c => c.firing)).map (fun f => f.cue) = some 50
        ∧ (partB.screens.get 0).setup = some left ∧ ∀ i : Fin 4, ¬ ClearDue partB.takeover i)
      ∧ (ClearDue (torn (entering .active house)) 0 ∧ (torn (entering .active house)).own.takeover = false
        ∧ (torn (entering .active house)).bus.tiles.map (fun t => t.address) = (List.range 16).map (fun k => k + 1)) :=
  by and_intros <;> decide +kernel

/-- The peer's sweep frame of this number. -/
def peerFrame (n : SweepNo) (mode : TrackerMode) (grains : Option Nat) : SweepFrame :=
  { number := n, quiet := false, wake := false, takeover := false, tracker := mode, grains := grains, tempo := 1200
    tileMap := List.replicate 16 none, screens := { Mirror.fresh.screens with s0 := peerEntry 100 7 } }

/-- Frames of this part's number and of the next, of a STOPPED and of a FOLLOWING peer, in each ownership state, out of a
period and in one of each kind. -/
theorem witness_PeerFramesFillTheMirror :
    (∀ o ∈ [OwnerState.driving, .releasing, .shadow, .granted], (owned o house).own.state = o
        ∧ (owned o house).resetUnit.period = none ∧ (owned o house).lineTest.started = none)
      ∧ (∀ f ∈ [peerFrame 2400 .stopped none, peerFrame 2401 .following (some 0), peerFrame 2401 .following (some 7676927)],
          parseSweep (BusFrame.sweep f).bytes = some f)
      ∧ (house.bus.sweepNumber = 2400 ∧ house.meter ≠ [] ∧ house.tracker.mode = .stopped)
      ∧ (shadow true 0 0 true).params.shadowFollow = true ∧ (owned .shadow house).params.shadowFollow = false
      ∧ (∀ p ∈ [fullPeriod, safePeriod], (inPeriod p (shadow true 0 0 true)).resetUnit.period = some p)
      ∧ fullPeriod.showSafe = false ∧ safePeriod.showSafe = true := by decide +kernel

/-- Each ownership state with GRANT high and low; RELEASING with PEER_DRIVE high and low; a line test and a survey
running or not; and a period of each kind. -/
theorem witness_GrantAndPeerDriveLines :
    house.resetUnit.period = none ∧ house.own.grant = true ∧ house.own.state = .driving
      ∧ (owned .shadow house).own.grant = false ∧ (owned .shadow house).own.state = .shadow
      ∧ (owned .releasing house).own.grant = false ∧ (owned .releasing house).own.state = .releasing
      ∧ (owned .releasing house).own.peerDrive = false ∧ (granted true 0 false true).own.peerDrive = true
      ∧ (owned .granted house).own.grant = true ∧ (owned .granted house).own.state = .granted
      ∧ house.survey.running = false ∧ (surveying 3 house).survey.running = true
      ∧ (testing joint 66).lineTest.started ≠ none ∧ house.lineTest.started = none
      ∧ (∀ p ∈ [fullPeriod, safePeriod], (inPeriod p house).resetUnit.period = some p)
      ∧ fullPeriod.showSafe = false ∧ safePeriod.showSafe = true := by decide +kernel

/-- Slot 3 and slot 4; an action and a code that is none; positions and arguments that fit and that do not. -/
theorem witness_ListenerSlotsAreSet :
    (∀ kind ∈ [0x38, 0x39, 0x3A], ∀ s ∈ [house, State.reset], Waiting (asked s kind []) kind [] [])
      ∧ (3 : Fin 4).val = 3 ∧ (goAt67 none 0).action = none ∧ (goAt67 (some .go) 0).action = some .go
      ∧ (goAt67 (some .go) 0).positions.Nodup ∧ (∀ p ∈ (goAt67 (some .go) 0).positions, p ≤ 31)
      ∧ ¬ (∀ p ∈ ([32] : List Nat), p ≤ 31) ∧ ¬ ([6, 6] : List Nat).Nodup ∧ (List.range 32).length ≤ 32
      ∧ (∀ p ∈ List.range 32, p ≤ 31) ∧ house.meter ≠ [] ∧ State.reset.meter = []
      ∧ toGrains house.meter ⟨12, 4, 0⟩ = none ∧ toGrains house.meter ⟨9999, 4, 191⟩ ≠ none
      ∧ (goAt67 (some .go) 2000).refractoryMs ≤ 2000 ∧ ¬ (goAt67 (some .go) 2001).refractoryMs ≤ 2000 := by
  refine ⟨?_, by decide +kernel⟩
  intro kind _ s hs
  simp only [List.mem_cons, List.not_mem_nil, or_false] at hs
  rcases hs with rfl | rfl <;> exact asked_waiting _ _ _ rfl rfl rfl

/-- Bodies of 1 and of 64 bytes, a wrong check, the lengths 0 and 65, a silence of 2,001 µs and one of 2,000; the
actions in IDLE and out of it; slot 3 and a slot 4 that is none. -/
theorem witness_ShowFramesMatchSlots :
    (inPeriod safePeriod desk).resetUnit.period ≠ none ∧ desk.resetUnit.period = none
      ∧ desk.listener.receiver.phase = .hunt ∧ 1 ≤ [(0x47 : Byte)].length ∧ (List.replicate 64 (0x47 : Byte)).length ≤ 64
      ∧ ([0, 0] : List Byte) ≠ checkBytes (crc [1, 0x47]) ∧ 64 < (65 : Byte).toNat
      ∧ receiving.listener.receiver.phase ≠ .hunt
      ∧ 2000 < ((at' 2001 receiving).showClock - receiving.listener.receiver.lastByte).toNat
      ∧ ((at' 2000 receiving).showClock - receiving.listener.receiver.lastByte).toNat ≤ 2000
      ∧ idle.sched.mode = .idle ∧ desk.sched.mode ≠ .idle
      ∧ (3 : Fin 4).val = 3 ∧ 4 ≤ 4 := by decide +kernel

/-- The test started or not, its completion due at 40 ms and not before, five reflections and four. -/
theorem witness_LineTestFindsTheFault :
    (∀ s ∈ [house, granted false 0 false true, granted true 0 false true], Waiting (asked s 0x40 []) 0x40 [] [])
      ∧ house.lineTest.started = none ∧ (testing joint 66).lineTest.started = some 10000000
      ∧ ((10040000 : ShowTime) - (10000000 + 40000)).toNat < 2 ^ 31
      ∧ 2 ^ 31 ≤ ((10039999 : ShowTime) - (10000000 + 40000)).toNat
      ∧ 5 ≤ (testing (joint.take 5) 66).lineTest.reflections.length
      ∧ (testing (joint.take 4) 66).lineTest.reflections.length < 5 := by
  refine ⟨?_, by decide +kernel⟩
  simp only [List.mem_cons, List.not_mem_nil, or_false]
  rintro s (rfl | rfl | rfl) <;> exact asked_waiting _ _ _ rfl rfl rfl

theorem witness_SurveyIsStartedAndJudged :
    (∀ s ∈ [house, granted false 0 false true, surveying 3 house], Waiting (asked s 0x41 []) 0x41 [] [])
      ∧ house.survey.found.length = 16 ∧ ScreensOk house.screens := by
  refine ⟨?_, by decide +kernel, ?_⟩
  · simp only [List.mem_cons, List.not_mem_nil, or_false]
    rintro s (rfl | rfl | rfl) <;> exact asked_waiting _ _ _ rfl rfl rfl
  · refine ⟨fun i u h => ?_, by decide +kernel⟩
    have : u = left ∨ u = right := by
      revert h
      fin_cases i <;> simp [house, showing, Screen.fresh, Four.get] <;> intro h <;> simp [← h]
    rcases this with rfl | rfl <;> constructor <;> decide

theorem witness_CheckFunction : ([0, 0] : List Byte) ≠ checkBytes (crc ([0x81, 0] ++ be16 0 ++ [])) := by decide +kernel

/-- A record with every field at its greatest value, and one with none. -/
theorem witness_FormatsReadBackAsWritten :
    ({ number := 65535, kind := .follow, anchor := some ⟨65535, 255, 255⟩, slot := some 255, delayMs := some 65535
       leadMs := some 65535, dwellMs := some 65535, essential := true, cut := true
       pages := [⟨255, 65535⟩] } : CueRecord).wf = true
      ∧ (manual 0).wf = true ∧ (page 65535 255 (List.replicate 255 0xFFFF)).wf = true
      ∧ (∀ f ∈ [peerFrame 65535 .following (some (2 ^ 32 - 1)), peerFrame 0 .stopped none],
          (f.tracker = .stopped ↔ f.grains = none) ∧ (∀ g ∈ f.grains, g < 2 ^ 32) ∧ f.tempo < 65536
            ∧ f.tileMap.length = 16 ∧ ∀ i : Fin 4, (f.screens.get i).liveTag < 256 ∧ (f.screens.get i).tagCounter < 256
              ∧ (∀ n ∈ (f.screens.get i).cue, 1 ≤ n ∧ n < 65536) ∧ ∀ n ∈ (f.screens.get i).page, 1 ≤ n ∧ n < 65536)
      ∧ 255 < 256 := by decide +kernel

/-- The act meets both invariants, and a step leads on from it. -/
theorem witness_EveryStepKeepsTheStores :
    StoresOk act ∧ leads .go (asked act kGo []) (fun t => t.change.isSome) = true := by
  have noSetup : ∀ i u, (act.screens.get i).setup ≠ some u := by
    intro i u
    fin_cases i <;> simp [act, State.reset, Screen.fresh, Four.replicate, Four.get]
  refine ⟨?_, by decide +kernel⟩
  constructor
  case meter => exact meter_ok
  case tracker => constructor <;> decide +kernel
  case cues => exact act_cues
  case pages => constructor <;> decide +kernel
  case screens => exact ⟨fun i u h => absurd h (noSetup i u), by decide +kernel⟩
  all_goals decide +kernel

theorem witness_EveryStepKeepsTheShow : ShowOk act := by
  have held : ∀ n ∈ [20, 10, 30], act.cue? n ≠ none := by decide +kernel
  constructor
  case meter => exact meter_ok
  case cues => exact act_cues
  case anchors =>
    have h : ∀ c ∈ act.cues, ∀ g ∈ c.anchorGrains, g ≤ 7676927 := by decide +kernel
    exact fun c hc g hg => ⟨7676927, by decide +kernel, h c hc g hg⟩
  case next =>
    intro n h
    have : n = 30 := by simpa [act] using h.symm
    exact this ▸ held 30 (by decide)
  case live =>
    intro n h
    have : n = 20 := by simpa [act] using h.symm
    exact this ▸ held 20 (by decide)
  case history => exact fun n h => held n (by simp [act] at h; rcases h with rfl | rfl <;> decide)
  case flight => rintro n (⟨c, h, -⟩ | ⟨r, h, -⟩) <;> simp [act, State.reset] at h
  case backFiring => intro c h; simp [act, State.reset] at h
  case backReport => intro r h; simp [act, State.reset] at h
  all_goals decide +kernel


end Sys2Proof.Tests
end

section
/-!
The tempo update of an accepted pulse (R13): the rounding as a function on the integers, the model's `newPeriod` in
its terms, and what an accepted pulse leaves in the tracker's period.
-/

namespace Sys2Proof.Machine

/-! ### Sixteenths rounded half away from zero -/

/-- `x / 16` rounded to the nearest integer, a half away from zero (R13). -/
def roundSixteenth (x : Int) : Int :=
  if 0 ≤ x then (x + 8) / 16 else -((8 - x) / 16)

theorem roundSixteenth_of_nonneg {x : Int} (h : 0 ≤ x) : roundSixteenth x = (x + 8) / 16 := if_pos h

theorem roundSixteenth_neg (x : Int) : roundSixteenth (-x) = -roundSixteenth x := by
  unfold roundSixteenth
  obtain h | rfl | h := lt_trichotomy x 0
  · rw [if_pos (by omega), if_neg (by omega), neg_neg, neg_add_eq_sub]
  · rfl
  · rw [if_neg (by omega), if_pos (by omega), sub_neg_eq_add, add_comm]

theorem roundSixteenth_nearest (x : Int) : 2 * |16 * roundSixteenth x - x| ≤ 16 := by
  have bounds : -8 ≤ 16 * roundSixteenth x - x ∧ 16 * roundSixteenth x - x ≤ 8 := by
    unfold roundSixteenth
    split <;> omega
  have := abs_le.mpr bounds
  omega

theorem roundSixteenth_half_away {x : Int} (half : 2 * |16 * roundSixteenth x - x| = 16) :
    |x| < |16 * roundSixteenth x| := by
  have half : |16 * roundSixteenth x - x| = 8 := by omega
  obtain h | h := le_or_gt 0 x
  · rw [roundSixteenth_of_nonneg h] at half ⊢
    rw [abs_of_nonneg h, abs_of_nonneg (by omega)]
    obtain h' | h' := (abs_eq (by decide)).mp half <;> omega
  · obtain ⟨y, rfl⟩ : ∃ y, x = -y := ⟨-x, by omega⟩
    rw [roundSixteenth_neg, roundSixteenth_of_nonneg (by omega)] at half ⊢
    rw [abs_of_neg h, mul_neg, abs_neg, abs_of_nonneg (by omega)]
    obtain h' | h' := (abs_eq (by decide)).mp half <;> omega

/-- An adjustment by at most sixteen sixteenths of `d` lies between 0 and `d`. -/
theorem roundSixteenth_mul_between (d : Int) {gain : Nat} (hgain : gain ≤ 16) :
    min 0 d ≤ roundSixteenth (d * gain) ∧ roundSixteenth (d * gain) ≤ max 0 d := by
  have hg : (gain : Int) ≤ 16 := by exact_mod_cast hgain
  unfold roundSixteenth
  obtain h | h := le_or_gt 0 d
  · have low : 0 ≤ d * gain := mul_nonneg h (by omega)
    have high : d * gain ≤ d * 16 := mul_le_mul_of_nonneg_left hg h
    rw [if_pos low]
    omega
  · have low : d * 16 ≤ d * gain := mul_le_mul_of_nonpos_left hg h.le
    have high : d * gain ≤ 0 := mul_nonpos_of_nonpos_of_nonneg h.le (by omega)
    split <;> omega

/-! ### The new period -/

/-- The adjusted period lies between the old one and the scaled interval. -/
theorem adjusted_between (period i : Nat) {gain : Nat} (hgain : gain ≤ 16) :
    min (period : Int) i ≤ period + roundSixteenth (((i : Int) - period) * gain)
      ∧ period + roundSixteenth (((i : Int) - period) * gain) ≤ max (period : Int) i := by
  have := roundSixteenth_mul_between ((i : Int) - period) hgain
  omega

/-- The model's subtraction of naturals loses nothing: the adjusted period is never below 0. -/
theorem newPeriod_eq (period i : Nat) {gain : Nat} (hgain : gain ≤ 16) :
    (newPeriod period gain i : Int)
      = max 200000 (min (period + roundSixteenth (((i : Int) - period) * gain)) 3000000) := by
  have hbetween := adjusted_between period i hgain
  unfold newPeriod
  simp only [Config.minPeriod, Config.maxPeriod]
  split
  case isTrue h =>
    have hd : ((i : Int) - period) * gain = ((i - period) * gain : Nat) := by push_cast [h]; rfl
    rw [hd, roundSixteenth_of_nonneg (by omega)]
    omega
  case isFalse h =>
    have hd : ((i : Int) - period) * gain = -((period - i) * gain : Nat) := by
      push_cast [Nat.le_of_not_le h]; ring
    rw [hd, roundSixteenth_neg, roundSixteenth_of_nonneg (by omega)] at hbetween ⊢
    omega

/-! ### The accepted pulse -/

theorem Tracker.scaled_eq (tr : Tracker) (t : ShowTime) :
    tr.scaled t = (t - tr.tc).toNat * tr.pendingPpb.getD tr.ppb := by
  unfold Tracker.scaled
  cases tr.pendingPpb <;> rfl

theorem Tracker.classify_eq_accepted {tr : Tracker} {t : ShowTime}
    (going : tr.mode = .following ∨ tr.mode = .waiting) (low : tr.period ≤ 2 * tr.scaled t)
    (high : tr.scaled t ≤ 2 * tr.period) : tr.classify t = .accepted := by
  unfold Tracker.classify
  obtain h | h := going <;> simp only [h] <;> rw [if_neg (by omega), if_pos high]

@[simp] theorem Tracker.count_period (tr : Tracker) (positionReport : Nat) :
    (tr.count positionReport).1.period = tr.period := by
  unfold Tracker.count
  split
  · split <;> rfl
  · rfl

@[simp] theorem State.countPulse_period (s : State) (tr : Tracker) :
    (s.countPulse tr).tracker.period = tr.period := by
  unfold State.countPulse
  simp only
  split <;> simp

theorem State.pulse_period_of_accepted {s : State} (h : s.tracker.classify s.showClock = .accepted) :
    s.pulse.1.tracker.period
      = newPeriod s.tracker.period s.params.followGain (s.tracker.scaled s.showClock) := by
  simp only [State.pulse, Tracker.advanced, h, State.countPulse_period]

/-- Settles O7: the adjustment is `roundSixteenth` of D × FOLLOW_GAIN. -/
theorem tempoUpdateRounds : Obligations.TempoUpdateRounds := by
  unfold Obligations.TempoUpdateRounds
  intro s tr i gain d going low high _ hgain
  have hi : tr.scaled s.showClock = i := tr.scaled_eq s.showClock
  have accepted : tr.classify s.showClock = .accepted :=
    Tracker.classify_eq_accepted going (hi ▸ low) (hi ▸ high)
  have hbetween := adjusted_between tr.period i hgain
  refine ⟨roundSixteenth (d * gain), ?_, roundSixteenth_nearest _, roundSixteenth_half_away, ?_, ?_, ?_, ?_⟩
  · rw [State.pulse_period_of_accepted accepted, hi]
    exact newPeriod_eq _ _ hgain
  · intro hd hg
    rw [hd, hg]
    rfl
  · intro hd hg
    rw [hd, hg]
    rfl
  · change (tr.period : Int) ≤ 2 * (tr.period + roundSixteenth (((i : Int) - tr.period) * gain))
    omega
  · change (tr.period : Int) + roundSixteenth (((i : Int) - tr.period) * gain) ≤ 2 * tr.period
    omega

end Sys2Proof.Machine
end

section
/-!
The check function (R180): its recurrence over the bytes, and what a panel bus frame must end with to be read.
-/

namespace Sys2Proof.Machine

/-! ### The recurrence -/

theorem crcByte_eq_iterate (r : Check) (b : Byte) :
    crcByte r b = crcShift^[8] (r ^^^ (b.setWidth 16 <<< 8)) := rfl

theorem crc_append (bytes more : List Byte) : crc (bytes ++ more) = more.foldl crcByte (crc bytes) :=
  List.foldl_append

theorem crc_concat (bytes : List Byte) (b : Byte) :
    crc (bytes ++ [b]) = crcShift^[8] (crc bytes ^^^ (b.setWidth 16 <<< 8)) := by
  rw [crc_append, List.foldl_cons, List.foldl_nil, crcByte_eq_iterate]

/-! ### The check at the end of a frame -/

@[simp] theorem checkBytes_length (c : Check) : (checkBytes c).length = 2 := rfl

/-- The high byte first. -/
theorem checkBytes_eq_extract (c : Check) : checkBytes c = [c.extractLsb' 8 8, c.extractLsb' 0 8] := by
  have high : byteOf (c.toNat / 256) = c.extractLsb' 8 8 := by
    rw [byteOf, BitVec.extractLsb', Nat.shiftRight_eq_div_pow]
  have low : byteOf c.toNat = c.extractLsb' 0 8 := by
    rw [byteOf, BitVec.extractLsb', Nat.shiftRight_zero]
  rw [checkBytes, be16, high, low]

/-- The two bytes at the end are told from the covered ones by their number alone. -/
theorem append_checkBytes_inj {covered covered' check : List Byte} (two : check.length = 2)
    (same : covered ++ check = covered' ++ checkBytes (crc covered')) : check = checkBytes (crc covered) := by
  obtain ⟨rfl, rfl⟩ := List.append_inj' same (two.trans (checkBytes_length _).symm)
  rfl

theorem BusFrame.bytes_eq_busEnvelope (f : BusFrame) :
    ∃ type address body, f.bytes = busEnvelope type address body := by
  cases f with
  | sweep f => exact ⟨_, _, _, rfl⟩
  | content tile tag cpt codes => exact ⟨_, _, _, rfl⟩
  | poll tile => exact ⟨_, _, _, rfl⟩

/-- A frame that is read is a start byte, covered bytes, and their check. -/
theorem eq_append_checkBytes_of_readEnvelope {bytes : List Byte} {read : Nat × Nat × List Byte}
    (h : readEnvelope bytes = some read) :
    ∃ covered, bytes = 0x7E :: (covered ++ checkBytes (crc covered)) := by
  unfold readEnvelope at h
  split at h
  case h_1 start type address hi lo rest =>
    obtain ⟨⟨rfl, -, check⟩, -⟩ := Option.ite_none_right_eq_some.mp h
    refine ⟨type :: address :: hi :: lo :: rest.take (hi.toNat * 256 + lo.toNat), ?_⟩
    rw [← check]
    simp only [List.cons_append, List.take_append_drop]
  case h_2 => cases h

theorem readEnvelope_eq_none_of_check_ne {covered check : List Byte} (two : check.length = 2)
    (differs : check ≠ checkBytes (crc covered)) : readEnvelope (0x7E :: (covered ++ check)) = none := by
  refine Option.eq_none_iff_forall_ne_some.mpr fun read h => differs ?_
  obtain ⟨covered', same⟩ := eq_append_checkBytes_of_readEnvelope h
  exact append_checkBytes_inj two (List.cons.inj same).2

/-- Settles O56: the recurrence is `crc_concat`, a frame on the bus is an envelope, and an envelope that is read ends
with its check. -/
theorem checkFunction : Obligations.CheckFunction := by
  unfold Obligations.CheckFunction
  intro shift
  refine ⟨rfl, crc_concat, by decide +kernel, by decide, by decide, by decide, checkBytes_eq_extract,
    fun _ _ => rfl, ?_, ?_⟩
  · intro f
    obtain ⟨type, address, body, h⟩ := f.bytes_eq_busEnvelope
    exact ⟨type, address, body, h⟩
  · intro type address hi lo body covered differs
    exact readEnvelope_eq_none_of_check_ne rfl differs

end Sys2Proof.Machine
end

section
/-!
What the shared operations keep of the stores: `Calm s t` says that `t` has the stores of `s`, its queue of requests and
its reply path, and that the tracker, the shown history, the notice queue and the lines are within their bounds in `t`
when they are in `s`.
-/

namespace Sys2Proof.Machine

set_option Elab.async false

/-! ### The notice queue (R171) -/

/-- The notice queue of R171: at most 32 notices, one POSITION among them. -/
structure NoticesOk (queue : List Notice) : Prop where
  atMost : queue.length ≤ 32
  onePosition : (queue.filter Notice.isPosition).length ≤ 1

theorem noticesOk_nil : NoticesOk [] := ⟨by simp, by simp⟩

theorem NoticesOk.tail {n : Notice} {rest : List Notice} (h : NoticesOk (n :: rest)) : NoticesOk rest := by
  obtain ⟨hlen, hpos⟩ := h
  refine ⟨by simp at hlen; omega, le_trans ?_ hpos⟩
  exact ((List.sublist_cons_self n rest).filter _).length_le

theorem filter_isPosition_eq_nil {queue : List Notice} (h : queue.any Notice.isPosition = false) :
    queue.filter Notice.isPosition = [] := by
  simpa [List.filter_eq_nil_iff] using h

/-- A POSITION put in place of the queued one: the places of the POSITION notices stay. -/
theorem length_filter_replace (queue : List Notice) {n : Notice} (hn : n.isPosition = true) :
    ((queue.map (fun m => if m.isPosition then n else m)).filter Notice.isPosition).length
      = (queue.filter Notice.isPosition).length := by
  rw [← List.countP_eq_length_filter, ← List.countP_eq_length_filter, List.countP_map]
  congr 1
  funext m
  by_cases hm : m.isPosition = true <;> simp [hm, hn]

theorem enqueue_ok {queue : List Notice} (n : Notice) (h : NoticesOk queue) : NoticesOk (enqueue queue n).1 := by
  obtain ⟨hlen, hpos⟩ := h
  unfold enqueue
  split
  case isTrue both =>
    rw [Bool.and_eq_true] at both
    exact ⟨by simpa using hlen, by rw [length_filter_replace queue both.1]; exact hpos⟩
  case isFalse notBoth =>
    have apart : n.isPosition = true → queue.filter Notice.isPosition = [] := fun hn =>
      filter_isPosition_eq_nil (by simpa [hn] using notBoth)
    have tail : ([n].filter Notice.isPosition).length ≤ 1 := List.length_filter_le ..
    split
    case isTrue room =>
      simp only [Config.noticeDepth] at room
      refine ⟨by simp; omega, ?_⟩
      by_cases hn : n.isPosition = true
      · simpa [List.filter_append, apart hn] using tail
      · simpa [List.filter_append, hn] using hpos
    case isFalse full =>
      simp only [Config.noticeDepth] at full
      split
      case isTrue any =>
        have hn : ¬ n.isPosition = true := fun hn => by simp [hn, any] at notBoth
        have sub := List.eraseP_sublist (p := Notice.isPosition) (l := queue)
        have shorter : (queue.eraseP Notice.isPosition).length = queue.length - 1 := by
          obtain ⟨m, hm, hpm⟩ := List.any_eq_true.mp any
          exact List.length_eraseP_of_mem hm hpm
        refine ⟨by simp only [List.length_append, shorter, List.length_singleton]; omega, ?_⟩
        have := (sub.filter Notice.isPosition).length_le
        simp only [List.filter_append, List.length_append, List.filter_cons, hn, List.filter_nil]
        simp
        omega
      case isFalse none =>
        have nil := filter_isPosition_eq_nil (by simpa using none)
        have sub := (List.tail_sublist queue).filter Notice.isPosition
        rw [nil, List.sublist_nil] at sub
        exact ⟨by simp; omega, by simpa [List.filter_append, sub] using tail⟩

/-! ### `Calm` -/

/-- DRIVE is high in DRIVING and RELEASING alone (R122). -/
def DriveOk (o : Ownership) : Prop := o.drive = true ↔ o.state = .driving ∨ o.state = .releasing

/-- The stores, the waiting records, the reset period and REQUEST are the same in both states, and so are the waiting
commands and the show clock; the ranges of the rest are kept. -/
structure Calm (s t : State) : Prop where
  pending : t.pending = s.pending := by rfl
  showClock : t.showClock = s.showClock := by rfl
  meter : t.meter = s.meter := by rfl
  tracker : TrackerOk s.tracker → TrackerOk t.tracker := by exact fun h => h
  cues : t.cues = s.cues := by rfl
  pages : t.pages = s.pages := by rfl
  setups : ∀ i, (t.screens.get i).setup = (s.screens.get i).setup := by exact fun _ => rfl
  addresses : t.bus.tiles.map (fun a => a.address) = s.bus.tiles.map (fun a => a.address) := by rfl
  history : s.sched.history.length ≤ 8 → t.sched.history.length ≤ 8 := by exact fun h => h
  requests : t.port.requests = s.port.requests := by rfl
  replies : t.port.replies = s.port.replies := by rfl
  sending : t.port.sending = s.port.sending := by rfl
  notices : NoticesOk s.port.notices → NoticesOk t.port.notices := by exact fun h => h
  drive : DriveOk s.own → DriveOk t.own := by exact fun h => h
  shadow : s.inFullReset = true → s.own.state = .shadow → t.own.state = .shadow := by exact fun _ h => h
  request : t.own.request = s.own.request := by rfl
  busRequest : t.params.busRequest = s.params.busRequest := by rfl
  period : t.resetUnit.period = s.resetUnit.period := by rfl

namespace Calm

theorem refl (s : State) : Calm s s := {}

theorem inFullReset {s t : State} (h : Calm s t) : t.inFullReset = s.inFullReset := by
  rw [State.inFullReset, State.inFullReset, h.period]

theorem inReset {s t : State} (h : Calm s t) : t.inReset = s.inReset := by
  rw [State.inReset, State.inReset, h.period]

theorem trans {s t u : State} (h1 : Calm s t) (h2 : Calm t u) : Calm s u where
  pending := h2.pending.trans h1.pending
  showClock := h2.showClock.trans h1.showClock
  meter := h2.meter.trans h1.meter
  tracker := h2.tracker ∘ h1.tracker
  cues := h2.cues.trans h1.cues
  pages := h2.pages.trans h1.pages
  setups i := (h2.setups i).trans (h1.setups i)
  addresses := h2.addresses.trans h1.addresses
  history := h2.history ∘ h1.history
  requests := h2.requests.trans h1.requests
  replies := h2.replies.trans h1.replies
  sending := h2.sending.trans h1.sending
  notices := h2.notices ∘ h1.notices
  drive := h2.drive ∘ h1.drive
  shadow full hs := h2.shadow (h1.inFullReset.trans full) (h1.shadow full hs)
  request := h2.request.trans h1.request
  busRequest := h2.busRequest.trans h1.busRequest
  period := h2.period.trans h1.period

/-- `trans`, the later operation first. -/
theorem after {s t u : State} (h2 : Calm t u) (h1 : Calm s t) : Calm s u := h1.trans h2

theorem foldl {α : Type} (f : State → α → State) (hf : ∀ s a, Calm s (f s a)) (l : List α) (s : State) :
    Calm s (l.foldl f s) := by
  induction l generalizing s with
  | nil => exact refl s
  | cons a rest ih => exact (hf s a).trans (ih (f s a))

theorem ite {s t u : State} {p : Prop} [Decidable p] (ht : p → Calm s t) (hu : ¬ p → Calm s u) :
    Calm s (if p then t else u) := by
  split
  · exact ht ‹_›
  · exact hu ‹_›

theorem ite_fst {α : Type} {s : State} {p : Prop} [Decidable p] {t u : State × α} (ht : p → Calm s t.1)
    (hu : ¬ p → Calm s u.1) : Calm s (if p then t else u).1 := by
  split
  · exact ht ‹_›
  · exact hu ‹_›

end Calm

/-! ### Screens, tiles and notices -/

theorem calm_updScreens (s : State) (f : Fin 4 → Screen → Screen) (hf : ∀ i c, (f i c).setup = c.setup) :
    Calm s (s.updScreens f) where
  setups i := by simp [hf]

theorem calm_updTiles (s : State) (f : Tile → Tile) (hf : ∀ t, (f t).address = t.address) :
    Calm s (s.updTiles f) where
  addresses := by simp [hf]

theorem calm_post (s : State) (n : Notice) : Calm s (s.post n) := by
  unfold State.post
  exact Calm.ite (fun _ => .refl s) (fun _ => { notices := fun h => enqueue_ok n h })

theorem calm_postAll (s : State) (ns : List Notice) : Calm s (s.postAll ns) := Calm.foldl _ calm_post ns s

/-! ### The composer -/

@[simp] theorem PanelBus.dropTransfer_tiles (b : PanelBus) : b.dropTransfer.tiles = b.tiles := by
  unfold PanelBus.dropTransfer
  split
  · split <;> rfl
  · rfl

@[simp] theorem Screen.handed_setup (c : Screen) (e : Option Entry) : (c.handed e).setup = c.setup := by
  cases e <;> rfl

theorem calm_spendWork (s : State) : Calm s s.spendWork := calm_updScreens s _ (fun _ _ => rfl)

theorem calm_handOver (s : State) (c : Change) : Calm s (s.handOver c) where
  setups i := by simp [State.handOver]
  addresses := by simp [State.handOver]

theorem calm_build (s : State) (f : Option Firing) (carried : List Take) (takeover : Bool) :
    Calm s (s.build f carried takeover) := by
  unfold State.build
  exact Calm.ite (fun _ => calm_spendWork s) (fun _ => (calm_spendWork s).trans (calm_handOver _ _))

theorem calm_composeWork (s : State) : Calm s s.composeWork := by
  unfold State.composeWork
  exact Calm.ite (fun _ => calm_build s _ _ _) (fun _ => .refl s)

theorem calm_buildBlackout (s : State) : Calm s s.buildBlackout := by
  unfold State.buildBlackout
  exact Calm.ite (fun _ => (calm_handOver _ _).after (calm_updScreens s _ (fun _ _ => rfl))) (fun _ => .refl s)

theorem calm_abandon (s : State) : Calm s s.abandon where
  setups i := by simp [State.abandon]
  addresses := by simp [State.abandon]

/-! ### The scheduler -/

theorem calm_consumeLatch (s : State) (c : CueRecord) : Calm s (s.consumeLatch c) := by
  unfold State.consumeLatch
  split
  · exact {}
  · exact .refl s

theorem calm_lapse (s : State) (cause : LapseCause) : Calm s (s.lapse cause) := by
  unfold State.lapse
  split
  · exact (calm_post _ _).after {}
  · exact .refl s

theorem calm_fire (s : State) (c : Cue) (trigger : Trigger) (next : NextPtr) : Calm s (s.fire c trigger next) := by
  unfold State.fire State.buildFiring
  exact (calm_build _ _ _ _).after ((calm_consumeLatch s c.record).trans {})

theorem calm_firePending (s : State) (g : PendingGo) : Calm s (s.firePending g) := by
  unfold State.firePending
  split
  · exact (calm_fire _ _ _ _).after {}
  · exact calm_lapse s _

theorem calm_skip (b : Boundary) (chosen : Nat) (pos : Option FullPos) (s : State) (c : Cue) :
    Calm s (State.skip b chosen pos s c) :=
  (calm_consumeLatch s c.record).trans (calm_post _ _)

theorem calm_evaluate (s : State) (b : Boundary) : Calm s (s.evaluate b) := by
  unfold State.evaluate
  simp only
  split
  · exact .refl s
  · exact Calm.ite (fun _ => (Calm.foldl _ (calm_skip b _ _) _ s).trans (calm_fire _ _ _ _)) (fun _ => .refl s)

theorem calm_afterRaise (s : State) (b : Boundary) : Calm s (s.afterRaise b) := by
  unfold State.afterRaise
  refine Calm.ite (fun _ => .refl s) (fun _ => ?_)
  split
  · exact .refl s
  · exact calm_firePending s _
  · exact calm_evaluate s b
  · exact .refl s

@[simp] theorem Scheduler.raise_history (sc : Scheduler) : sc.raise.history = sc.history := by
  unfold Scheduler.raise
  split <;> rfl

theorem calm_schedulerHandles (s : State) (b : Boundary) : Calm s (s.schedulerHandles b) := by
  unfold State.schedulerHandles
  exact Calm.ite (fun _ => .refl s) (fun _ => Calm.trans { history := fun h => by simpa using h } (calm_afterRaise _ b))

theorem length_historyAfter (history : List Nat) (r : CommitReport) (h : history.length ≤ 8) :
    (historyAfter history r).length ≤ 8 := by
  unfold historyAfter pushHistory
  simp only [Config.historyDepth]
  split
  · simp; omega
  · by_cases room : history.length < 8
    · simp [room]
    · simp [room]
      omega

theorem calm_takeReport (s : State) (r : CommitReport) : Calm s (s.takeReport r) :=
  Calm.trans { history := length_historyAfter s.sched.history r } (calm_post _ _)

theorem calm_adoptCue (s : State) (n : Nat) : Calm s (s.adoptCue n) := by
  unfold State.adoptCue
  refine Calm.ite (fun _ => .refl s) (fun _ => ?_)
  split
  · exact .refl s
  · exact (calm_fire s _ _ _).trans (calm_lapse _ _)

/-! ### The line test and the survey -/

theorem calm_abortTest (s : State) (cause : TestAbort) : Calm s (s.abortTest cause) := by
  unfold State.abortTest
  split
  · exact .refl s
  · cases cause
    case reset => exact {}
    all_goals exact (calm_post _ _).after {}

theorem calm_completeTest (s : State) : Calm s s.completeTest := (calm_post _ _).after {}

theorem calm_endSurvey (s : State) (abort : Option SurveyAbort) : Calm s (s.endSurvey abort) :=
  (calm_post _ _).after {}

@[simp] theorem PanelBus.dropSurveyPoll_tiles (b : PanelBus) : b.dropSurveyPoll.tiles = b.tiles := by
  unfold PanelBus.dropSurveyPoll
  split
  · split <;> rfl
  · rfl

theorem calm_abortSurvey (s : State) (cause : SurveyAbort) : Calm s (s.abortSurvey cause) := by
  unfold State.abortSurvey
  exact Calm.ite (fun _ => Calm.trans { addresses := by simp } (calm_endSurvey _ _)) (fun _ => .refl s)

/-! ### Marks and commits -/

@[simp] theorem State.tileAfterMark_address (s : State) (given : Four (Option MarkInstr)) (t : Tile) :
    (s.tileAfterMark given t).address = t.address := by
  unfold State.tileAfterMark
  split <;> rfl

@[simp] theorem State.tileAtCommit_address (s : State) (c : Change) (t : Tile) :
    (s.tileAtCommit c t).address = t.address := by
  unfold State.tileAtCommit Tile.repairedBy
  simp only
  split <;> split <;> rfl

@[simp] theorem State.forceTile_address (s : State) (c : Change) (t : Tile) :
    (s.forceTile c t).address = t.address := by
  unfold State.forceTile
  split <;> rfl

@[simp] theorem Screen.committed_setup (c : Screen) (take : Option Take) (e : Option Entry) (instr : ScreenInstr) :
    (c.committed take e instr).setup = c.setup := by
  unfold Screen.committed
  cases take <;> cases e <;> cases instr <;> rfl

theorem calm_putMark (s : State) (b : Boundary) (flags : MarkFlags) (given : Four (Option MarkInstr)) :
    Calm s (s.putMark b flags given) where
  addresses := by simp [State.putMark, Function.comp_def]

theorem calm_plainMark (s : State) (b : Boundary) (flags : MarkFlags) : Calm s (s.plainMark b flags) :=
  calm_putMark s b flags _

theorem calm_commitChange (s : State) (b : Boundary) (c : Change) (onBus : Bool) :
    Calm s (s.commitChange b c onBus) where
  setups i := by simp [State.commitChange, State.commitScreens, State.screenAfter]
  addresses := by
    cases onBus <;> simp [State.commitChange, State.commitScreens, Function.comp_def]

theorem calm_afterCommit (s : State) (c : Change) : Calm s (s.afterCommit c) :=
  (calm_composeWork _).after (calm_updScreens s _ (fun _ _ => rfl))

theorem calm_commitMark (s : State) (b : Boundary) (flags : MarkFlags) (c : Change) :
    Calm s (s.commitMark b flags c) :=
  (calm_commitChange s b c true).trans ((calm_putMark _ b flags _).trans (calm_afterCommit _ c))

theorem calm_commitNotional (s : State) (b : Boundary) : Calm s (s.commitNotional b) := by
  unfold State.commitNotional
  split
  · exact (calm_commitChange s b _ false).trans (calm_afterCommit _ _)
  · exact .refl s

theorem calm_forceOut (s : State) (b : Boundary) (c : Change) : Calm s (s.forceOut b c) :=
  (calm_updTiles s _ (s.forceTile_address c)).trans (calm_postAll _ _)

theorem calm_testedMark (s : State) (b : Boundary) (flags : MarkFlags) (rises : Bool) :
    Calm s (s.testedMark b flags rises) := by
  unfold State.testedMark
  split
  · exact calm_plainMark s b flags
  · refine Calm.ite (fun _ => calm_commitMark s b flags _) (fun _ => ?_)
    refine Calm.ite (fun _ => ?_) (fun _ => calm_plainMark s b flags)
    exact Calm.ite (fun _ => (calm_forceOut s b _).trans (calm_commitMark _ b flags _))
      (fun _ => (calm_plainMark _ b flags).after {})

theorem calm_markUncounted (s : State) (b : Boundary) (flags : MarkFlags) (swapTested : Bool) :
    Calm s (s.markUncounted b flags swapTested) := by
  unfold State.markUncounted
  split
  · exact Calm.ite (fun _ => calm_plainMark s b flags) (fun _ => calm_testedMark s b flags false)
  · exact calm_plainMark s b flags

theorem calm_setLink (s : State) (new : LinkState) (sweep : SweepNo) (cause : LinkCause) :
    Calm s (s.setLink new sweep cause) := by
  unfold State.setLink
  exact Calm.ite (fun _ => .refl s) (fun _ => (calm_post _ _).after {})

/-- Driving ends in RELEASING alone, which a full reset's period does not know. -/
theorem calm_stopDriving (s : State) (b : Boundary) (hs : s.own.state = .releasing) : Calm s (s.stopDriving b) := by
  refine (calm_commitNotional s b).trans (Calm.trans (t := _) ?_ (calm_post _ _))
  refine { drive := fun _ => ?_, shadow := fun _ shadow => ?_ }
  · simp only [DriveOk]
    split <;> simp
  · have : (s.commitNotional b).own.state = s.own.state := by
      unfold State.commitNotional
      split
      · rw [(State.afterCommit_same _ _).own (by decide)]
        rfl
      · rfl
    rw [this, hs] at shadow
    cases shadow

theorem State.markCase_stops {s : State} (h : s.markCase = .stops) : s.own.state = .releasing := by
  unfold State.markCase at h
  split at h
  · split at h <;> cases h
  · cases h
  · exact absurd h (by
      unfold State.linkCase
      repeat' split
      all_goals exact MarkCase.noConfusion)
  · assumption

theorem calm_markFor (s : State) (b : Boundary) : Calm s (s.markFor b s.markCase) := by
  generalize hm : s.markCase = m
  cases m
  case idle => exact .refl s
  case notional => exact calm_commitNotional s b
  case stops => exact calm_stopDriving s b (State.markCase_stops hm)
  case ordinary => exact (calm_testedMark s.countRest b _ true).after {}
  case forced => exact (calm_testedMark s.countRest b _ true).after {}
  case quietEntry =>
    exact Calm.trans {} ((calm_setLink _ _ _ _).trans ((calm_abortSurvey _ _).trans (calm_plainMark _ b _)))
  case rest => exact {}
  case refresh => exact calm_plainMark s b _
  case quietCommit => exact calm_markUncounted s b _ _
  case wake => exact ((calm_setLink _ _ _ _).trans (calm_plainMark _ b _)).after {}
  case waking => exact (calm_markUncounted _ b _ _).after {}
  case wakeDone => exact (calm_setLink s _ _ _).trans (calm_markUncounted _ b _ _)

theorem calm_clearPartial (s : State) (which : List (Fin 4)) : Calm s (s.clearPartial which) :=
  (calm_composeWork _).after (calm_updScreens s _ (fun _ _ => by split <;> rfl))

theorem calm_beforeMark (s : State) : Calm s s.beforeMark := by
  unfold State.beforeMark
  exact Calm.ite (fun _ => .refl s)
    (fun _ => Calm.ite (fun _ => (calm_clearPartial s.spendFree _).after {}) (fun _ => {}))

theorem calm_afterMark (found : List (Fin 4)) (s : State) : Calm s (State.afterMark found s) := by
  unfold State.afterMark
  exact Calm.ite (fun _ => .refl s) (fun _ => calm_clearPartial s _)

theorem calm_controllerHandles (s : State) (b : Boundary) : Calm s (s.controllerHandles b) :=
  (calm_beforeMark s).trans ((calm_markFor _ b).trans (calm_afterMark _ _))

theorem calm_controllerNext (s : State) : Calm s s.controllerNext := by
  unfold State.controllerNext
  split
  · exact .refl s
  · exact (calm_controllerHandles _ _).after {}

theorem calm_controllerIf (s : State) (want : MarkCase) : Calm s (s.controllerIf want) := by
  unfold State.controllerIf
  exact Calm.ite (fun _ => calm_controllerNext s) (fun _ => .refl s)

theorem calm_boundary (s : State) (number : SweepNo) (time : ShowTime) (byPeer : Bool) :
    Calm s (s.boundary number time byPeer) := {}

/-! ### Slots and answers -/

theorem calm_updTile (s : State) (address : Nat) (f : Tile → Tile) (hf : ∀ t, (f t).address = t.address) :
    Calm s (s.updTile address f) :=
  calm_updTiles s _ (fun t => by split <;> simp [hf])

theorem calm_giveSlot (s : State) (iv : Interval) : Calm s (s.giveSlot iv) := by
  unfold State.giveSlot
  refine Calm.ite (fun _ => ?_) (fun _ => ?_)
  · split
    case h_1 kind _ _ => cases kind <;> exact {}
    · exact {}
  · split <;> exact {}

theorem calm_slotStarts (s : State) : Calm s s.slotStarts := by
  unfold State.slotStarts
  split
  · exact .refl s
  · refine Calm.ite (fun _ => Calm.ite (fun _ => {}) (fun _ => ?_)) (fun _ => .refl s)
    exact Calm.ite (fun _ => .refl s) (fun _ => calm_giveSlot s _)

theorem calm_acknowledge (s : State) (w : Window) : Calm s (s.acknowledge w) := by
  have content : Calm s (s.answerWindow.updTile w.tile (fun t => t.ackedContent w.tag)) :=
    (calm_updTile _ _ _ (fun _ => by rfl)).after {}
  unfold State.acknowledge
  split
  · exact content.trans {}
  · exact content.trans {}
  · exact (calm_updTile _ _ _ (fun _ => by rfl)).after {}
  all_goals exact .refl s

theorem calm_tileReturns (s : State) (w : Window) (a : PollAnswer) : Calm s (s.tileReturns w a) := by
  unfold State.tileReturns
  exact Calm.ite (fun _ => (calm_post _ _).after (calm_updTile s _ _ (fun _ => by rfl))) (fun _ => .refl s)

theorem calm_pollAnswered (s : State) (w : Window) (a : PollAnswer) : Calm s (s.pollAnswered w a) := by
  unfold State.pollAnswered
  split
  · exact (calm_tileReturns _ w a).after {}
  · exact (calm_tileReturns _ w a).after
      (((calm_updTile s.answerWindow w.tile
        (fun t => { t with presence := .present, capacity := some a.capacity }) (fun _ => rfl)).after {}).trans {})
  all_goals exact .refl s

theorem calm_completeSurvey (s : State) : Calm s s.completeSurvey := by
  unfold State.completeSurvey
  exact Calm.ite (fun _ => calm_endSurvey s _) (fun _ => .refl s)

theorem calm_surveyUnanswered (s : State) (tile : Nat) : Calm s (s.surveyUnanswered tile) :=
  Calm.trans (calm_updTile s tile (fun t => { t with presence := .absent, capacity := none }) (fun _ => rfl)) {}

theorem calm_closeWindow (s : State) (w : Window) : Calm s (s.closeWindow w) := by
  unfold State.closeWindow
  simp only
  split
  · exact Calm.ite (fun _ => {}) (fun _ => {})
  · refine Calm.trans (Calm.ite (fun _ => {}) (fun _ => ?_)) (calm_completeSurvey _)
    exact (calm_surveyUnanswered _ _).after {}
  all_goals exact {}

/-! ### Ownership -/

theorem calm_countSilence (s : State) : Calm s s.countSilence := by
  unfold State.countSilence
  exact Calm.ite (fun _ => (calm_post _ _).after {}) (fun _ => {})

theorem calm_silenceAt (s : State) (b : Boundary) : Calm s (s.silenceAt b) := by
  unfold State.silenceAt
  exact Calm.ite (fun _ => .refl s) (fun _ => calm_countSilence s)

theorem calm_testDivergence (s : State) (b : Boundary) : Calm s (s.testDivergence b) := by
  unfold State.testDivergence
  refine Calm.ite (fun _ => {}) (fun _ => ?_)
  exact Calm.ite (fun _ => (calm_post _ _).after {}) (fun _ => {})

theorem calm_offerAdoption (s : State) : Calm s s.offerAdoption := by
  unfold State.offerAdoption
  split
  · exact Calm.ite (fun _ => calm_adoptCue s _) (fun _ => .refl s)
  · exact .refl s

theorem calm_compareMirror (s : State) (b : Boundary) : Calm s (s.compareMirror b) := by
  unfold State.compareMirror
  exact Calm.ite (fun _ => (calm_testDivergence s b).trans (calm_offerAdoption _)) (fun _ => .refl s)

@[simp] theorem Screen.takenOver_setup (c : Screen) (e : AsShown) (disagrees : Bool) :
    (c.takenOver e disagrees).setup = c.setup := by
  unfold Screen.takenOver
  split <;> rename_i h <;> simp [h]

theorem calm_takeover (s : State) : Calm s s.takeover := by
  unfold State.takeover
  simp only
  split <;> exact Calm.trans { setups := fun i => by simp } (calm_build _ _ _ _)

theorem calm_takeLink (s : State) (b : Boundary) : Calm s (s.takeLink b) := by
  unfold State.takeLink
  exact Calm.ite (fun _ => calm_setLink s _ _ _) (fun _ => .refl s)

theorem calm_firstMark (s : State) (b : Boundary) : Calm s (s.firstMark b) := by
  unfold State.firstMark
  simp only
  split
  · exact calm_markUncounted s b _ _
  · exact (calm_markUncounted _ b _ _).after {}
  · exact Calm.ite (fun _ => ((calm_setLink _ _ _ _).trans (calm_plainMark _ b _)).after {})
      (fun _ => calm_markUncounted s b _ _)

theorem calm_firstBoundary (s : State) (b : Boundary) : Calm s (s.firstBoundary b) :=
  (calm_beforeMark s).trans ((calm_firstMark _ b).trans (calm_afterMark _ _))

theorem calm_driven (s : State) (b : Boundary) : Calm s (s.driven b) := (calm_post _ _).after {}

theorem State.inFullReset_of_not_inReset {s : State} (h : ¬ s.inReset = true) : s.inFullReset = false := by
  unfold State.inFullReset
  unfold State.inReset at h
  cases hp : s.resetUnit.period <;> simp_all

/-- The part enters DRIVING outside a reset period alone, and DRIVE rises with the state. -/
theorem calm_enterDriving (s : State) (b : Boundary) (hr : ¬ s.inReset = true) : Calm s (s.enterDriving b) := by
  have h0 := calm_abortTest s .driveStart
  have full : (s.abortTest .driveStart).inFullReset = false :=
    h0.inFullReset.trans (State.inFullReset_of_not_inReset hr)
  refine h0.trans (Calm.trans (t := _) ?_ ((calm_takeLink _ b).trans (Calm.trans
    (Calm.ite (fun _ => calm_takeover _) (fun _ => .refl _)) ((calm_firstBoundary _ b).trans (calm_driven _ b)))))
  refine { drive := fun _ => by simp [DriveOk], shadow := fun h => ?_ }
  rw [full] at h
  cases h

theorem calm_grantedBoundary (s : State) (b : Boundary) (hr : ¬ s.inReset = true) :
    Calm s (s.grantedBoundary b) := by
  unfold State.grantedBoundary
  refine Calm.ite (fun _ => ?_) (fun _ => Calm.ite (fun _ => calm_enterDriving s b hr) (fun _ => .refl s))
  exact Calm.ite (fun _ => (calm_post _ _).after {}) (fun _ => {})

theorem calm_ownershipHandles (s : State) (b : Boundary) : Calm s (s.ownershipHandles b) := by
  unfold State.ownershipHandles
  refine Calm.ite (fun _ => .refl s) (fun hr => ?_)
  split
  · exact (calm_silenceAt s b).trans (calm_compareMirror _ b)
  · have hs := calm_silenceAt s b
    exact hs.trans (calm_grantedBoundary _ b (by rwa [hs.inReset]))
  all_goals exact .refl s

theorem calm_ownershipNext (s : State) : Calm s s.ownershipNext := by
  unfold State.ownershipNext
  split
  · exact .refl s
  · exact (calm_ownershipHandles _ _).after {}

theorem calm_grantRises (s : State) : Calm s s.grantRises := by
  unfold State.grantRises
  refine Calm.ite (fun _ => {}) (fun h => ?_)
  have full : s.inFullReset = false := by simp at h; exact h.2
  split
  case h_1 hs =>
    refine Calm.trans (t := _) ?_ (calm_post _ _)
    exact { drive := fun h => by simpa [DriveOk, hs] using h, shadow := fun h => by simp [full] at h }
  case h_2 hs =>
    refine Calm.ite (fun _ => {}) (fun _ => Calm.trans (t := _) ?_ (calm_post _ _))
    exact { drive := fun h => by simpa [DriveOk, hs] using h, shadow := fun h => by simp [full] at h }
  all_goals exact {}

theorem calm_grantFalls (s : State) : Calm s s.grantFalls := by
  unfold State.grantFalls
  refine Calm.ite (fun _ => {}) (fun h => ?_)
  have full : s.inFullReset = false := by simp at h; exact h.2
  split
  case h_1 hs =>
    refine Calm.trans (t := _) ?_ ((calm_post _ _).trans (calm_abortTest _ _))
    exact { drive := fun h => by simpa [DriveOk, hs] using h, shadow := fun h => by simp [full] at h }
  case h_2 hs =>
    refine Calm.trans (t := _) ?_ ((calm_post _ _).trans (calm_abortSurvey _ _))
    exact { drive := fun h => by simpa [DriveOk, hs] using h, shadow := fun h => by simp [full] at h }
  all_goals exact {}

theorem calm_peerDriveRises (s : State) : Calm s s.peerDriveRises := by
  unfold State.peerDriveRises
  refine Calm.ite (fun _ => {}) (fun _ => ?_)
  refine Calm.ite (fun _ => ?_) (fun _ => (calm_abortTest _ _).after {})
  have aborted := calm_abortTest { s with own := { s.own with peerDrive := true } } .peerDrive
  exact (calm_post _ _).after ((aborted.after {}).trans {})

end Sys2Proof.Machine
end

section
/-!
Every step keeps the stores (StoresOk): the tracker's ranges, the requests that write a store, the control port's
queues, the resets, and then one case for each command.
-/

namespace Sys2Proof.Machine

set_option Elab.async false

/-! ### The tracker's ranges (R14, R15) -/

theorem TrackerOk.congr {a b : Tracker} (h : TrackerOk a) (period : b.period = a.period) (ppb : b.ppb = a.ppb)
    (pending : b.pendingPpb = a.pendingPpb) : TrackerOk b :=
  ⟨by rw [period]; exact h.period, by rw [ppb]; exact h.ppb, by rw [pending]; exact h.pendingPpb⟩

theorem periodOf_range (v : Nat) : 200000 ≤ periodOf v ∧ periodOf v ≤ 3000000 := by
  have low : 200 ≤ limitTempo v := by unfold limitTempo; omega
  have high : limitTempo v ≤ 3000 := by unfold limitTempo; omega
  unfold periodOf roundDiv Config.tempoScale
  constructor
  · rw [Nat.le_div_iff_mul_le (by omega)]
    omega
  · rw [← Nat.lt_succ_iff, Nat.div_lt_iff_lt_mul (by omega)]
    omega

theorem newPeriod_range (period gain i : Nat) :
    200000 ≤ newPeriod period gain i ∧ newPeriod period gain i ≤ 3000000 := by
  unfold newPeriod
  simp only [Config.minPeriod, Config.maxPeriod]
  omega

theorem ppbMember_mem (v : Nat) : ppbMember v ∈ [1, 2, 3, 4, 6, 8] := by
  unfold ppbMember
  repeat' split
  all_goals decide

theorem TrackerOk.takePpb {tr : Tracker} (h : TrackerOk tr) : TrackerOk tr.takePpb := by
  unfold Tracker.takePpb
  split
  case h_1 q hq => exact ⟨h.period, h.pendingPpb q hq, by simp⟩
  case h_2 => exact h

theorem TrackerOk.withPeriod {tr : Tracker} (h : TrackerOk tr) (v : Nat) :
    TrackerOk { tr with period := periodOf v } :=
  ⟨periodOf_range v, h.ppb, h.pendingPpb⟩

theorem TrackerOk.setPpb {tr : Tracker} (h : TrackerOk tr) (v : Nat) : TrackerOk (tr.setPpb (ppbMember v)) := by
  refine ⟨h.period, h.ppb, fun q hq => ?_⟩
  simp only [Tracker.setPpb] at hq
  split at hq
  · cases hq
  · cases hq
    exact ppbMember_mem v

theorem TrackerOk.advance {tr : Tracker} (h : TrackerOk tr) (last : Option Nat) (t : ShowTime) :
    TrackerOk (tr.advance last t) := by
  unfold Tracker.advance
  split
  case h_1 hp => exact ⟨h.period, h.ppb, h.pendingPpb⟩
  case h_2 q hq => exact ⟨h.period, h.pendingPpb q hq, by simp⟩

theorem TrackerOk.advanced {tr : Tracker} (h : TrackerOk tr) (last : Option Nat) (gain : Nat) (t : ShowTime) :
    TrackerOk (tr.advanced last gain t) := by
  have ha := h.advance last t
  unfold Tracker.advanced
  split
  · exact ⟨newPeriod_range _ _ _, ha.ppb, ha.pendingPpb⟩
  · exact ha

theorem TrackerOk.count {tr : Tracker} (h : TrackerOk tr) (report : Nat) : TrackerOk (tr.count report).1 := by
  unfold Tracker.count
  split
  · split <;> exact h.congr rfl rfl rfl
  · exact h

theorem TrackerOk.syncTo {tr : Tracker} (h : TrackerOk tr) (g : Nat) (t : ShowTime) : TrackerOk (tr.syncTo g t) := by
  unfold Tracker.syncTo
  simp only
  split <;> exact h.takePpb.congr rfl rfl rfl

theorem TrackerOk.setTempo {tr : Tracker} (h : TrackerOk tr) (v : Nat) (t : ShowTime) :
    TrackerOk (tr.setTempo v t) := by
  unfold Tracker.setTempo
  simp only
  split <;> exact (h.withPeriod v).congr rfl rfl rfl

theorem TrackerOk.arm {tr : Tracker} (h : TrackerOk tr) (g : Nat) (tempo : Option Nat) :
    TrackerOk (tr.arm g tempo) := by
  have ht := h.takePpb
  cases tempo with
  | none => exact ⟨ht.period, ht.ppb, ht.pendingPpb⟩
  | some v => exact ⟨periodOf_range v, ht.ppb, ht.pendingPpb⟩

theorem TrackerOk.adopt {tr : Tracker} (h : TrackerOk tr) (last : Option Nat) (g v : Nat) :
    TrackerOk (tr.adopt last g v) :=
  (h.takePpb.withPeriod v).congr rfl rfl rfl

theorem TrackerOk.showSafe {tr : Tracker} (h : TrackerOk tr) (last : Option Nat) (t : ShowTime) :
    TrackerOk (tr.showSafe last t) := by
  unfold Tracker.showSafe
  split <;> exact h.congr rfl rfl rfl

theorem trackerOk_fresh : TrackerOk Tracker.fresh := ⟨by decide, by decide, by decide⟩

/-! ### The tracker's commands -/

theorem calm_countPulse (s : State) (tr : Tracker) (h : TrackerOk s.tracker → TrackerOk tr) :
    Calm s (s.countPulse tr) := by
  have set : Calm s { s with tracker := (tr.count s.params.positionReport).1 } :=
    { tracker := fun hs => (h hs).count _ }
  unfold State.countPulse
  exact Calm.ite (fun _ => set.trans (calm_post _ _)) (fun _ => set)

theorem calm_pulse (s : State) : Calm s s.pulse.1 := by
  have advanced : TrackerOk s.tracker →
      TrackerOk (s.tracker.advanced (endGrain s.meter) s.params.followGain s.showClock) := fun h => h.advanced _ _ _
  unfold State.pulse
  simp only
  split
  · exact .refl s
  · exact .refl s
  · exact { tracker := fun h => h.congr rfl rfl rfl }
  · exact calm_countPulse s _ advanced
  · exact calm_countPulse s _ advanced
  · exact (calm_countPulse _ _ (by simpa using advanced)).after (calm_post _ _)

theorem calm_beatPulse (s : State) : Calm s s.beatPulse := by
  unfold State.beatPulse
  exact Calm.ite (fun _ => .refl s) (fun _ => calm_pulse s)

theorem calm_clampExpires (s : State) : Calm s s.clampExpires := by
  unfold State.clampExpires
  exact Calm.ite (fun _ => { tracker := fun h => h.congr rfl rfl rfl }) (fun _ => .refl s)

theorem calm_lossExpires (s : State) : Calm s s.lossExpires := by
  unfold State.lossExpires
  exact Calm.ite (fun _ => (calm_post _ _).after { tracker := fun h => h.congr rfl rfl rfl }) (fun _ => .refl s)

theorem calm_syncGrains (s : State) (g : Nat) : Calm s (s.syncGrains g).1 := { tracker := fun h => h.syncTo g _ }

theorem calm_syncRequest (s : State) (p : Bbg) : Calm s (s.syncRequest p).1 := by
  unfold State.syncRequest
  split
  · exact .refl s
  · split
    · exact .refl s
    · exact calm_syncGrains s _

theorem calm_tapRequest (s : State) : Calm s s.tapRequest.1 := by
  unfold State.tapRequest
  simp only
  split
  · exact .refl s
  · exact calm_pulse s

theorem calm_adoptPosition (s : State) (f : SweepFrame) (g : Nat) : Calm s (s.adoptPosition f g) := by
  have adopted : TrackerOk s.tracker → TrackerOk (s.tracker.adopt (endGrain s.meter) g f.tempo) :=
    fun h => h.adopt _ _ _
  unfold State.adoptPosition
  refine Calm.ite (fun _ => {}) (fun _ => Calm.ite (fun _ => { tracker := adopted }) (fun _ => ?_))
  exact (calm_post _ _).after { tracker := adopted }

theorem calm_followPosition (s : State) (f : SweepFrame) : Calm s (s.followPosition f) := by
  unfold State.followPosition
  refine Calm.ite (fun _ => .refl s) (fun _ => ?_)
  split
  · exact Calm.ite (fun _ => calm_adoptPosition s f _) (fun _ => {})
  · exact {}

theorem calm_lockTimer (s : State) (f : SweepFrame) : Calm s (s.lockTimer f) := by
  unfold State.lockTimer
  exact Calm.ite (fun _ => {}) (fun _ => calm_boundary s _ _ _)

theorem calm_hearPeer (s : State) (f : SweepFrame) : Calm s (s.hearPeer f) := by
  have heard : Calm s { s with mirror := s.mirror.hear f } := {}
  exact heard.trans ((calm_lockTimer _ f).trans (calm_followPosition _ f))

/-! ### The requests that keep the stores as they are -/

theorem calm_clearLatches (s : State) : Calm s s.clearLatches := {}

theorem calm_armRequest (s : State) (pos : Bbg) (tempo first : Option Nat) (held : Bool) :
    Calm s (s.armRequest pos tempo first held).1 := by
  have taken : ∀ g next, Calm s (s.armTaken g tempo next held).1 := fun g next =>
    (calm_clearLatches _).after ((calm_lapse _ .arm).after { tracker := fun h => h.arm g tempo })
  unfold State.armRequest refuse
  repeat' split
  all_goals first | exact .refl s | exact taken _ _

theorem calm_stopRequest (s : State) : Calm s s.stopRequest.1 :=
  (calm_clearLatches _).after ((calm_lapse _ .stop).after { tracker := fun h => h.congr rfl rfl rfl })

theorem calm_goRequest (s : State) : Calm s s.goRequest.1 := by
  unfold State.goRequest refuse
  repeat' split
  all_goals first | exact .refl s | exact {} | exact calm_fire s _ _ _

theorem calm_jumpFire (s : State) (c : Cue) : Calm s (s.jumpFire c).1 := by
  unfold State.jumpFire
  split
  · exact {}
  · exact calm_fire s _ _ _

theorem calm_jumpSync (s : State) (anchor : Option Nat) : Calm s (s.jumpSync anchor).1 := by
  unfold State.jumpSync
  split
  · split
    · exact .refl s
    · exact calm_syncGrains s _
  · exact .refl s

theorem calm_jumpRequest (s : State) (n : Nat) (withSync withFire : Bool) :
    Calm s (s.jumpRequest n withSync withFire).1 := by
  have pointed : Calm s { s with sched := { s.sched with next := .cue n, follow := s.followFor (.cue n) } } := {}
  unfold State.jumpRequest refuse
  refine Calm.ite_fst (fun _ => .refl s) (fun _ => ?_)
  refine Calm.ite_fst (fun _ => .refl s) (fun _ => ?_)
  split
  · exact .refl s
  · refine Calm.ite_fst (fun _ => .refl s) (fun _ => ?_)
    refine Calm.ite_fst (fun _ => .refl s) (fun _ => ?_)
    cases withFire
    · exact pointed.trans (calm_jumpSync _ _)
    · exact (calm_jumpFire _ _).after ((calm_jumpSync _ _).after pointed)

theorem calm_backRequest (s : State) : Calm s s.backRequest.1 := by
  unfold State.backRequest refuse
  repeat' split
  all_goals first | exact .refl s | exact (calm_lapse _ _).after (Calm.trans (calm_fire s _ _ _) {})

theorem calm_holdRequest (s : State) : Calm s s.holdRequest.1 := by
  unfold State.holdRequest refuse
  split
  · exact .refl s
  · exact {}

theorem calm_releaseRequest (s : State) : Calm s s.releaseRequest.1 := by
  unfold State.releaseRequest refuse
  split
  · exact .refl s
  · exact {}

theorem calm_readCueRequest (s : State) (n : Nat) (mode : ReadMode) : Calm s (s.readCueRequest n mode).1 := by
  unfold State.readCueRequest refuse
  repeat' split
  all_goals exact .refl s

theorem calm_putEdit (s : State) (which : List (Fin 4)) (edit : OverrideEdit) : Calm s (s.putEdit which edit) :=
  (calm_composeWork _).after (calm_updScreens s _ (fun _ _ => by split <;> rfl))

theorem calm_showPageRequest (s : State) (page : Nat) (place : Place) :
    Calm s (s.showPageRequest page place).1 := by
  unfold State.showPageRequest refuse
  repeat' split
  all_goals first | exact .refl s | exact calm_putEdit s _ _

theorem calm_clearOverrideRequest (s : State) (place : Place) : Calm s (s.clearOverrideRequest place).1 := by
  unfold State.clearOverrideRequest refuse
  split
  · exact .refl s
  · exact calm_putEdit s _ _

theorem calm_groupReleaseRequest (s : State) : Calm s s.groupReleaseRequest.1 := by
  unfold State.groupReleaseRequest refuse
  split
  · exact (calm_composeWork _).after {}
  · exact .refl s

theorem calm_restoreAll (s : State) : Calm s s.restoreAll := calm_updScreens s _ (fun _ _ => rfl)

theorem calm_blackoutRequest (s : State) : Calm s s.blackoutRequest.1 := by
  unfold State.blackoutRequest
  split
  · exact .refl s
  · exact (calm_buildBlackout _).after {}

theorem calm_liftRequest (s : State) : Calm s s.liftRequest.1 := by
  unfold State.liftRequest refuse
  split
  · exact (calm_composeWork _).after ((calm_restoreAll _).after {})
  · exact .refl s

theorem calm_setListenerRequest (s : State) (n : Nat) (l : ListenerSetup) :
    Calm s (s.setListenerRequest n l).1 := by
  unfold State.setListenerRequest refuse
  repeat' split
  all_goals exact {}

theorem calm_clearListenerRequest (s : State) (n : Nat) : Calm s (s.clearListenerRequest n).1 := by
  unfold State.clearListenerRequest refuse
  split <;> exact {}

theorem calm_readListenerRequest (s : State) (n : Nat) : Calm s (s.readListenerRequest n).1 := by
  unfold State.readListenerRequest refuse
  split <;> exact .refl s

theorem calm_lineTestRequest (s : State) (e : Echo) : Calm s (s.lineTestRequest e).1 := by
  unfold State.lineTestRequest refuse
  repeat' split
  all_goals exact {}

theorem calm_surveyRequest (s : State) : Calm s s.surveyRequest.1 := by
  unfold State.surveyRequest refuse
  repeat' split
  all_goals exact {}

theorem calm_getParamRequest (s : State) (id : Nat) : Calm s (s.getParamRequest id).1 := by
  unfold State.getParamRequest refuse
  split <;> exact .refl s

/-! ### The listener -/

theorem calm_deliver (s : State) (i : Fin 4) (setup : SlotSetup) : Calm s (s.deliver i setup).1 := by
  unfold State.deliver
  split
  · exact .refl s
  · split
    · unfold State.latchAction
      split
      · exact .refl s
      · exact {}
    · exact calm_goRequest s
    · exact calm_holdRequest s
    · exact calm_releaseRequest s
    · exact calm_blackoutRequest s
    · exact calm_liftRequest s
    · unfold State.syncAction
      split
      · exact calm_syncRequest s _
      · exact .refl s

theorem calm_trySlot (body : List Byte) (arrival : ShowTime) (s : State) (i : Fin 4) :
    Calm s (State.trySlot body arrival s i) := by
  unfold State.trySlot
  simp only
  split
  · exact .refl s
  · exact Calm.ite (fun _ => (calm_post _ _).after ((calm_deliver _ _ _).after {})) (fun _ => .refl s)

theorem calm_showByte (s : State) (b : LineByte) : Calm s (s.showByte b) := by
  have dropped : ∀ u : State, Calm u u.dropShowFrame := fun u => {}
  have first : Calm s (if s.showGap then s.dropShowFrame else s) :=
    Calm.ite (fun _ => dropped s) (fun _ => .refl s)
  unfold State.showByte
  refine first.trans ?_
  generalize (if s.showGap then s.dropShowFrame else s) = u
  refine Calm.ite (fun _ => dropped u) (fun _ => ?_)
  simp only
  split
  · exact {}
  · exact {}
  · exact (Calm.foldl _ (calm_trySlot _ _) _ _).after {}

theorem calm_showBytes (s : State) (bytes : List LineByte) : Calm s (s.showBytes bytes) := by
  unfold State.showBytes
  exact Calm.ite (fun _ => .refl s) (fun _ => Calm.foldl _ calm_showByte _ s)

end Sys2Proof.Machine
end

section
/-!
Every step keeps the stores (StoresOk), second part: the requests that write a store, the control port's queues, the
resets, and one case for each command.
-/

namespace Sys2Proof.Machine

set_option Elab.async false

/-! ### A calm operation keeps the stores -/

theorem ScreensOk.congr {p q : Four Screen} (h : ScreensOk p) (hs : ∀ i, (q.get i).setup = (p.get i).setup) :
    ScreensOk q := by
  have tiles : ∀ i, (q.get i).tiles = (p.get i).tiles := fun i => by
    rw [Screen.tiles, Screen.tiles, hs i]
  refine ⟨fun i u hu => h.ranges i u (hs i ▸ hu), fun i j hij a ha => ?_⟩
  rw [tiles] at ha ⊢
  exact h.apart i j hij a ha

theorem StoresOk.noticesOk {s : State} (h : StoresOk s) : NoticesOk s.port.notices := ⟨h.notices, h.onePosition⟩

theorem State.inFullReset_eq_true {s : State} :
    s.inFullReset = true ↔ ∃ p, s.resetUnit.period = some p ∧ p.showSafe = false := by
  unfold State.inFullReset
  cases s.resetUnit.period <;> simp

theorem Calm.stores {s t : State} (h : Calm s t) (hs : StoresOk s) : StoresOk t where
  meter := h.meter ▸ hs.meter
  tracker := h.tracker hs.tracker
  cues := h.cues ▸ hs.cues
  pages := h.pages ▸ hs.pages
  screens := hs.screens.congr h.setups
  tiles := h.addresses.trans hs.tiles
  history := h.history hs.history
  requests := h.requests ▸ hs.requests
  fullAnswers := h.replies ▸ hs.fullAnswers
  takenReplies := h.replies ▸ hs.takenReplies
  notices := (h.notices hs.noticesOk).atMost
  onePosition := (h.notices hs.noticesOk).onePosition
  drive := h.drive hs.drive
  fullPeriod p hp hf := by
    rw [h.period] at hp
    obtain ⟨state, request⟩ := hs.fullPeriod p hp hf
    exact ⟨h.shadow (State.inFullReset_eq_true.mpr ⟨p, hp, hf⟩) state, h.request ▸ request⟩
  request hp := by
    rw [h.request, h.busRequest]
    exact hs.request (h.period ▸ hp)
  sending hp := by
    rw [h.sending]
    exact hs.sending (h.period ▸ hp)

/-! ### Requests (R164, R165) -/

/-- A request's handling keeps the stores, and leaves the reply path to the answer. -/
def KeptIn (s : State) (handled : State × Status × ReplyBody) : Prop :=
  StoresOk handled.1 ∧ handled.1.port.replies = s.port.replies

/-- The handling keeps the stores in every state in which a request is taken. -/
def KeepsStores (handle : State → State × Status × ReplyBody) : Prop :=
  ∀ s, StoresOk s → s.resetUnit.period = none → KeptIn s (handle s)

theorem StoresOk.keptIn_refuse {s : State} (h : StoresOk s) (code : Status) : KeptIn s (refuse s code) := ⟨h, rfl⟩

theorem keepsStores_of_calm {handle : State → State × Status × ReplyBody} (h : ∀ s, Calm s (handle s).1) :
    KeepsStores handle := fun s hs _ => ⟨(h s).stores hs, (h s).replies⟩

theorem keepsStores_refuse (code : Status) : KeepsStores (fun s => refuse s code) :=
  keepsStores_of_calm fun s => .refl s

theorem storesOk_dropRequest {s : State} (h : StoresOk s) : StoresOk s.dropRequest :=
  { h with
    requests := by
      have := h.requests
      simp only [State.dropRequest, List.length_tail]
      omega }

/-- The reply of a taken request joins a reply path that holds none to a taken request. -/
theorem storesOk_answer {s : State} (h : StoresOk s) (none : s.port.replies.any (fun r => r.taken) = false)
    (kind : Byte) (code : Status) (body : ReplyBody) : StoresOk (s.answer kind code body) :=
  { h with
    fullAnswers := by simpa [State.answer, List.filter_append] using h.fullAnswers
    takenReplies := by
      have nil : s.port.replies.filter (fun r => r.taken) = [] := by simpa [List.filter_eq_nil_iff] using none
      simp [State.answer, List.filter_append, nil] }

theorem State.takesRequests_iff {s : State} :
    s.takesRequests = true ↔ s.resetUnit.period = none ∧ s.port.restartTaken = false
      ∧ s.port.replies.any (fun r => r.taken) = false := by
  simp only [State.takesRequests, State.inReset, Bool.and_eq_true, Bool.not_eq_true', Option.isSome_eq_false_iff,
    Option.isNone_iff_eq_none, and_assoc]

theorem storesOk_take {s : State} (h : StoresOk s) (kind : Byte) (form : List Byte → BodyForm)
    {handle : State → State × Status × ReplyBody} (keeps : KeepsStores handle) : StoresOk (s.take kind form handle) := by
  unfold State.take
  split
  · exact h
  · split
    case isTrue taken =>
      rw [Bool.and_eq_true, State.takesRequests_iff] at taken
      obtain ⟨⟨period, -, none⟩, -⟩ := taken
      have dropped := storesOk_dropRequest h
      split
      · exact h
      · exact storesOk_answer dropped none _ _ _
      · obtain ⟨handled, replies⟩ := keeps s.dropRequest dropped period
        exact storesOk_answer handled (by rw [replies]; exact none) _ _ _
    · exact h

theorem storesOk_takeUnknown {s : State} (h : StoresOk s) : StoresOk s.takeUnknown := by
  unfold State.takeUnknown
  split
  · exact h
  · split
    case isTrue taken =>
      rw [Bool.and_eq_true, State.takesRequests_iff] at taken
      exact storesOk_answer (storesOk_dropRequest h) taken.1.2.2 _ _ _
    · exact h

/-! ### LOAD_METER (R2, R3) -/

/-- The start grain of an entry that joins a map. -/
def nextStart (meter : List MeterEntry) (firstBar : Nat) : Nat :=
  match meter.getLast? with
  | some e => startAfter e firstBar
  | none => 0

/-- The entry that joins a map. -/
def nextEntry (meter : List MeterEntry) (p : MeterPair) : MeterEntry :=
  { firstBar := p.firstBar, beats := p.beats, startGrain := nextStart meter p.firstBar }

theorem appendMeter_cons (meter : List MeterEntry) (p : MeterPair) (rest : List MeterPair) :
    appendMeter meter (p :: rest) = appendMeter (meter ++ [nextEntry meter p]) rest := rfl

/-- The map with one entry more: a chain as before when the new entry lies after the last. -/
theorem isChain_meterNext_concat {meter : List MeterEntry} (h : meter.IsChain meterNext) (p : MeterPair)
    (after : lastFirstBar meter < p.firstBar) :
    (meter ++ [nextEntry meter p]).IsChain meterNext := by
  refine List.IsChain.append h (.singleton _) ?_
  intro e he f hf
  cases hf
  simp only [Option.mem_def] at he
  refine ⟨by simpa [nextEntry, lastFirstBar, he] using after, by simp [nextEntry, nextStart, he, startAfter]⟩

theorem meterOk_appendMeter {meter : List MeterEntry} (entries : List MeterPair) (h : MeterOk meter)
    (ranges : ∀ e ∈ entries, e.firstBar ≤ 9999 ∧ 1 ≤ e.beats ∧ e.beats ≤ 16)
    (one : meter = [] → ∀ e ∈ entries.head?, e.firstBar = 1)
    (rise : barsRise (lastFirstBar meter) entries = true) (room : meter.length + entries.length ≤ 128) :
    MeterOk (appendMeter meter entries) := by
  induction entries generalizing meter with
  | nil => exact h
  | cons p rest ih =>
    simp only [barsRise, Bool.and_eq_true, decide_eq_true_eq] at rise
    simp only [List.length_cons] at room
    rw [appendMeter_cons]
    refine ih ⟨by simp; omega, ?_, ?_, isChain_meterNext_concat h.rising p rise.1⟩
      (fun e he => ranges e (List.mem_cons_of_mem _ he)) (by simp) (by simpa [nextEntry, lastFirstBar] using rise.2)
      (by simp; omega)
    · cases meter with
      | nil => simpa [nextEntry, nextStart] using one rfl
      | cons e rest => exact h.first
    · intro e he
      rcases List.mem_append.mp he with he | he
      · exact h.ranges e he
      · rw [List.mem_singleton] at he
        subst he
        exact ranges p (List.mem_cons_self ..)

/-- The checks of LOAD_METER leave a list that can be appended (R2). -/
theorem meterOk_appendMeter_of_checks {meter : List MeterEntry} {entries : List MeterPair} (h : MeterOk meter)
    (ok : ¬ (entries.isEmpty || !meterRangesOk entries || !startsAtOne meter entries
      || !barsRise (lastFirstBar meter) entries
      || decide (Config.maxMeter < meter.length + entries.length)) = true) :
    MeterOk (appendMeter meter entries) := by
  simp only [Bool.or_eq_true, Bool.not_eq_true', decide_eq_true_eq, not_or, Bool.not_eq_false, not_lt] at ok
  obtain ⟨⟨⟨⟨-, ranges⟩, one⟩, rise⟩, room⟩ := ok
  have ranges : ∀ e ∈ entries, e.firstBar ≤ 9999 ∧ 1 ≤ e.beats ∧ e.beats ≤ 16 := by
    intro e he
    have := List.all_eq_true.mp ranges e he
    simp only [Bool.and_eq_true, decide_eq_true_eq] at this
    obtain ⟨⟨⟨-, bar⟩, one⟩, sixteen⟩ := this
    exact ⟨bar, one, sixteen⟩
  have one : meter = [] → ∀ e ∈ entries.head?, e.firstBar = 1 := by
    intro empty e he
    cases entries with
    | nil => cases he
    | cons p rest =>
      cases he
      simpa [startsAtOne, empty] using one
  exact meterOk_appendMeter entries h ranges one rise room

theorem keepsStores_loadMeter (entries : List MeterPair) : KeepsStores (fun s => s.loadMeterRequest entries) := by
  intro s hs _
  change KeptIn s (s.loadMeterRequest entries)
  unfold State.loadMeterRequest refuse
  split
  · exact ⟨hs, rfl⟩
  · split
    · exact ⟨hs, rfl⟩
    case isFalse ok => exact ⟨{ hs with meter := meterOk_appendMeter_of_checks hs.meter ok }, rfl⟩

/-! ### The cue list -/

theorem CuesOk.sublist {l cues : List Cue} (h : CuesOk cues) (sub : l.Sublist cues) : CuesOk l :=
  ⟨le_trans sub.length_le h.atMost, h.rising.sublist sub⟩

theorem cuesOk_insertCue {cues : List Cue} (h : CuesOk cues) (c : Cue)
    (room : (∃ d ∈ cues, d.record.number = c.record.number) ∨ cues.length < 2048) : CuesOk (insertCue c cues) := by
  refine ⟨?_, insertCue_sorted c cues h.rising⟩
  rcases room with held | room
  · rw [insertCue_length_of_mem c cues h.rising held]
    exact h.atMost
  · have := insertCue_length_le c cues
    omega

theorem keepsStores_loadCue (c : CueRecord) : KeepsStores (fun s => s.loadCueRequest c) := by
  intro s hs _
  change KeptIn s (s.loadCueRequest c)
  unfold State.loadCueRequest refuse
  split
  · exact ⟨hs, rfl⟩
  · split
    · exact ⟨hs, rfl⟩
    · split
      · exact ⟨hs, rfl⟩
      · split
        · exact ⟨hs, rfl⟩
        case isFalse room =>
          simp only [Bool.and_eq_true, decide_eq_true_eq, not_and, not_le, cue?_isNone] at room
          exact ⟨{ hs with cues := cuesOk_insertCue hs.cues _ (or_iff_not_imp_left.mpr room) }, rfl⟩

theorem keepsStores_deleteCue (n : Nat) : KeepsStores (fun s => s.deleteCueRequest n) := by
  intro s hs _
  change KeptIn s (s.deleteCueRequest n)
  have shorter : (s.sched.history.filter (fun m => m != n)).length ≤ 8 :=
    le_trans (List.length_filter_le ..) hs.history
  unfold State.deleteCueRequest refuse
  split
  · exact ⟨hs, rfl⟩
  · split
    · exact ⟨hs, rfl⟩
    · simp only [State.deleteCue]
      split
      · exact ⟨{ hs with cues := hs.cues.sublist List.filter_sublist, history := shorter }, rfl⟩
      · exact ⟨{ hs with cues := hs.cues.sublist List.filter_sublist, history := shorter }, rfl⟩

theorem meterOk_nil : MeterOk [] := ⟨by simp, by simp, by simp, .nil⟩

theorem cuesOk_nil : CuesOk [] := ⟨by simp, .nil⟩

theorem pagesOk_nil : PagesOk [] := ⟨.nil, by simp, by simp⟩

theorem keepsStores_clearAct : KeepsStores State.clearActRequest := by
  intro s hs _
  unfold State.clearActRequest refuse
  split
  · exact ⟨hs, rfl⟩
  · split
    · exact ⟨hs, rfl⟩
    · exact ⟨{ hs with
        meter := meterOk_nil, cues := cuesOk_nil, pages := pagesOk_nil, tracker := hs.tracker.congr rfl rfl rfl
        screens := hs.screens.congr (fun i => by simp [State.clearAct]), history := by simp [State.clearAct] }, rfl⟩

/-! ### Pages and screens -/

/-- R65: the glyphs of a store with a page put in, the glyphs of the page it replaces given back. -/
theorem poolUse_insertPage (p : Page) (l : List Page) (h : l.Pairwise (fun a b => a.id < b.id)) :
    poolUse (insertPage p l) + ((l.find? (fun q => q.id == p.id)).map pageGlyphs).getD 0 = poolUse l + pageGlyphs p := by
  induction l with
  | nil => simp [insertPage, poolUse]
  | cons d rest ih =>
    obtain ⟨hd, hrest⟩ := List.pairwise_cons.mp h
    unfold insertPage
    split
    case isTrue lt =>
      have none : (d :: rest).find? (fun q => q.id == p.id) = none := by
        rw [List.find?_eq_none]
        intro e he
        rcases List.mem_cons.mp he with rfl | he
        · simp; omega
        · have := hd e he
          simp; omega
      rw [none]
      simp only [poolUse, List.map_cons, List.sum_cons, Option.map_none, Option.getD_none]
      omega
    case isFalse ge =>
      split
      case isTrue eq =>
        simp only [poolUse, List.map_cons, List.sum_cons, List.find?_cons, eq, beq_self_eq_true, Option.map_some,
          Option.getD_some]
        omega
      case isFalse ne =>
        have := ih hrest
        rw [List.find?_cons_of_neg (by simp; omega)]
        simp only [poolUse, List.map_cons, List.sum_cons] at this ⊢
        omega

theorem mem_insertPage {p q : Page} {l : List Page} (h : q ∈ insertPage p l) : q = p ∨ q ∈ l := by
  induction l with
  | nil => simpa [insertPage] using h
  | cons d rest ih =>
    unfold insertPage at h
    repeat' split at h
    · simpa using h
    · simp at h ⊢
      tauto
    · rcases List.mem_cons.mp h with rfl | h
      · simp
      · rcases ih h with rfl | h
        · simp
        · simp [h]

theorem State.glyphsOf_eq (s : State) (id : Nat) :
    s.glyphsOf id = ((s.pages.find? (fun q => q.id == id)).map pageGlyphs).getD 0 := by
  unfold State.glyphsOf State.page?
  cases s.pages.find? (fun q => q.id == id) <;> rfl

/-- R67: a page is taken when the pool holds the store with it. -/
theorem State.poolUse_insertPage_of_room {s : State} (h : s.pages.Pairwise (fun a b => a.id < b.id)) (p : Page) :
    poolUse (insertPage p s.pages) = poolUse s.pages - s.glyphsOf p.id + pageGlyphs p := by
  have sum := poolUse_insertPage p s.pages h
  rw [← s.glyphsOf_eq] at sum
  have le : s.glyphsOf p.id ≤ poolUse s.pages := by
    rw [s.glyphsOf_eq]
    cases hf : s.pages.find? (fun q => q.id == p.id) with
    | none => simp
    | some q => exact List.single_le_sum (by simp) _ (List.mem_map_of_mem (List.mem_of_find?_eq_some hf))
  omega

theorem keepsStores_loadPage (p : Page) : KeepsStores (fun s => s.loadPageRequest p) := by
  intro s hs _
  change KeptIn s (s.loadPageRequest p)
  unfold State.loadPageRequest refuse
  split
  · exact ⟨hs, rfl⟩
  case isFalse ok =>
    split
    · exact ⟨hs, rfl⟩
    · split
      · exact ⟨hs, rfl⟩
      case isFalse room =>
        rw [Config.glyphPool, ← State.poolUse_insertPage_of_room hs.pages.rising p] at room
        have id : 1 ≤ p.id ∧ p.id ≤ 4095 := by
          simp only [pageOk, pageIdOk, Bool.not_eq_true', Bool.not_eq_false, Bool.and_eq_true,
            decide_eq_true_eq] at ok
          exact ok.1.1.1.1
        refine ⟨{ hs with pages := ⟨insertPage_sorted p _ hs.pages.rising, fun q hq => ?_, not_lt.mp room⟩ }, rfl⟩
        rcases mem_insertPage hq with rfl | hq
        · exact id
        · exact hs.pages.ids q hq

theorem sum_filter_le (l : List Page) (keep : Page → Bool) : poolUse (l.filter keep) ≤ poolUse l :=
  (List.filter_sublist.map pageGlyphs).sum_le_sum (by simp)

theorem keepsStores_deletePage (id : Nat) : KeepsStores (fun s => s.deletePageRequest id) := by
  intro s hs _
  change KeptIn s (s.deletePageRequest id)
  unfold State.deletePageRequest refuse
  repeat' split
  case isFalse =>
    exact ⟨{ hs with pages := ⟨hs.pages.rising.sublist List.filter_sublist,
      fun q hq => hs.pages.ids q (List.mem_filter.mp hq).1, le_trans (sum_filter_le _ _) hs.pages.glyphs⟩ }, rfl⟩
  all_goals exact ⟨hs, rfl⟩

theorem setupInRange_of_setupOk {u : ScreenSetup} (h : setupOk u = true) : SetupInRange u := by
  simp only [setupOk, Bool.and_eq_true, decide_eq_true_eq, List.all_eq_true] at h
  obtain ⟨⟨⟨⟨⟨⟨lane, least⟩, most⟩, addresses⟩, distinct⟩, low⟩, high⟩ := h
  exact ⟨lane, ⟨least, most⟩, addresses, distinct, low, high⟩

/-- R70: a screen set to a configuration in range whose addresses no other screen holds. -/
theorem screensOk_set {s : State} (h : ScreensOk s.screens) (i : Fin 4) (c : Screen)
    (taken : s.setupTaken i c.setup = true) : ScreensOk (s.screens.set i c) := by
  have range : ∀ u ∈ c.setup, SetupInRange u ∧ s.tileTaken i u = false := by
    intro u hu
    rw [Option.mem_def] at hu
    simp only [State.setupTaken, hu, Bool.and_eq_true, Bool.not_eq_true'] at taken
    exact ⟨setupInRange_of_setupOk taken.1, taken.2⟩
  have apart : ∀ j, j ≠ i → ∀ a ∈ c.tiles, a ∉ (s.screens.get j).tiles := by
    intro j hj a ha
    cases hu : c.setup with
    | none => simp [Screen.tiles, hu] at ha
    | some u =>
      have free := (range u hu).2
      simp only [Screen.tiles, hu] at ha
      simp only [State.tileTaken, List.any_eq_false, Bool.not_eq_true, Bool.and_eq_false_iff] at free
      simpa [hj] using free a ha j (mem_fourNumbers j)
  refine ⟨fun j u hu => ?_, fun j k hjk a ha hk => ?_⟩
  · rw [Four.get_set] at hu
    split at hu
    · exact (range u hu).1
    · exact h.ranges j u hu
  · rw [Four.get_set] at ha hk
    split at ha <;> split at hk
    · exact hjk (by simp_all)
    · exact apart k (by assumption) a ha hk
    · exact apart j (by assumption) a hk ha
    · exact h.apart j k hjk a ha hk

theorem keepsStores_setScreen (n : Nat) (setup : Option ScreenSetup) :
    KeepsStores (fun s => s.setScreenRequest n setup) := by
  intro s hs _
  change KeptIn s (s.setScreenRequest n setup)
  unfold State.setScreenRequest refuse
  split
  · exact ⟨hs, rfl⟩
  · split
    · exact ⟨hs, rfl⟩
    · split
      · exact ⟨hs, rfl⟩
      case h_2 i _ =>
        split
        case isTrue taken =>
          have set : StoresOk (s.updScreen i (fun c => s.freshScreen c setup)) :=
            { hs with screens := screensOk_set hs.screens i _ taken }
          have calm : Calm (s.updScreen i (fun c => s.freshScreen c setup)) (s.setScreen i setup) :=
            (calm_composeWork _).after (calm_updTiles _ _ (fun t => by split_ifs <;> rfl))
          exact ⟨calm.stores set, calm.replies⟩
        · exact ⟨hs, rfl⟩

/-! ### Parameters -/

theorem keepsStores_setNumber (id least greatest v : Nat) (put : Params → Nat → Params)
    (h : ∀ p n, (put p n).busRequest = p.busRequest) :
    KeepsStores (fun s => s.setNumber id least greatest v put) :=
  keepsStores_of_calm fun s => { busRequest := h s.params _ }

theorem keepsStores_setSwitch (id v : Nat) (put : Params → Bool → Params)
    (h : ∀ p on, (put p on).busRequest = p.busRequest) : KeepsStores (fun s => s.setSwitch id v put) := by
  refine keepsStores_of_calm fun s => ?_
  unfold State.setSwitch refuse
  split
  · exact { busRequest := h s.params _ }
  · exact .refl s

/-- R121: BUS_REQUEST and the REQUEST line move together. -/
theorem keepsStores_setBusRequest (v : Nat) : KeepsStores (fun s => s.setBusRequest v) := by
  intro s hs period
  change KeptIn s (s.setBusRequest v)
  unfold State.setBusRequest refuse
  split
  · exact ⟨{ hs with
      drive := hs.drive, fullPeriod := fun p hp => by simp [period] at hp, request := fun _ => rfl }, rfl⟩
  · exact ⟨hs, rfl⟩

theorem keepsStores_setParam (id v : Nat) : KeepsStores (fun s => s.setParamRequest id v) := by
  unfold State.setParamRequest
  split
  all_goals first
    | exact keepsStores_setNumber _ _ _ v _ (fun _ _ => rfl)
    | exact keepsStores_setSwitch _ v _ (fun _ _ => rfl)
    | exact keepsStores_setBusRequest v
    | exact keepsStores_refuse _
    | exact keepsStores_of_calm fun s => { tracker := fun h => h.setPpb v }
    | (split
       · exact keepsStores_of_calm fun s => {}
       · exact keepsStores_refuse _)

/-! ### The control port -/

/-- What StoresOk asks of the control port outside the transmitter. -/
structure PortOk (p : ControlPort) : Prop where
  requests : p.requests.length ≤ 4
  fullAnswers : (p.replies.filter (fun r => !r.taken)).length ≤ 4
  takenReplies : (p.replies.filter (fun r => r.taken)).length ≤ 1
  notices : NoticesOk p.notices

theorem StoresOk.port {s : State} (h : StoresOk s) : PortOk s.port :=
  ⟨h.requests, h.fullAnswers, h.takenReplies, h.noticesOk⟩

theorem StoresOk.withPort {s : State} (h : StoresOk s) {p : ControlPort} (hp : PortOk p)
    (hs : s.resetUnit.period ≠ none → p.sending = none) : StoresOk (s.setPort p) :=
  { h with
    requests := hp.requests, fullAnswers := hp.fullAnswers, takenReplies := hp.takenReplies
    notices := hp.notices.atMost, onePosition := hp.notices.onePosition, sending := hs }

theorem PortOk.accept {p : ControlPort} (h : PortOk p) (r : Record) : PortOk (p.accept r) := by
  unfold ControlPort.accept
  split
  case isTrue room => exact { h with requests := by simp [Config.queueDepth] at room ⊢; omega }
  case isFalse =>
    split
    case isTrue room =>
      refine { h with fullAnswers := ?_, takenReplies := by simpa [List.filter_append] using h.takenReplies }
      simp only [ControlPort.fullAnswers, Config.maxFullAnswers] at room
      simp [List.filter_append]
      omega
    case isFalse => exact ⟨h.requests, h.fullAnswers, h.takenReplies, h.notices⟩

theorem PortOk.byte {p : ControlPort} (h : PortOk p) (now : ShowTime) (b : LineByte) :
    PortOk (ControlPort.byte now p b) := by
  have dropped : ∀ q : ControlPort, PortOk q → PortOk q.dropRecord := fun q hq =>
    ⟨hq.requests, hq.fullAnswers, hq.takenReplies, hq.notices⟩
  have first : PortOk (if p.gap now then p.dropRecord else p) := by
    split
    · exact dropped p h
    · exact h
  unfold ControlPort.byte
  generalize (if p.gap now then p.dropRecord else p) = q at first
  simp only
  split
  · exact dropped q first
  · split
    · exact ⟨first.requests, first.fullAnswers, first.takenReplies, first.notices⟩
    · exact ⟨first.requests, first.fullAnswers, first.takenReplies, first.notices⟩
    · refine PortOk.accept ?_ _
      exact ⟨first.requests, first.fullAnswers, first.takenReplies, first.notices⟩

theorem PortOk.bytes {p : ControlPort} (h : PortOk p) (now : ShowTime) (bytes : List LineByte) :
    PortOk (bytes.foldl (ControlPort.byte now) p) := by
  induction bytes generalizing p with
  | nil => exact h
  | cons b rest ih => exact ih (h.byte now b)

theorem storesOk_transmitStarts {s : State} (h : StoresOk s) : StoresOk s.transmitStarts := by
  unfold State.transmitStarts
  split
  · exact h
  case isFalse free =>
    have period : s.resetUnit.period = none := by
      simp [State.inReset] at free
      exact free.1
    split
    case h_1 r rest hr =>
      have sub : rest.Sublist s.port.replies := hr ▸ List.sublist_cons_self ..
      exact h.withPort
        { h.port with
          fullAnswers := le_trans (sub.filter _).length_le h.fullAnswers
          takenReplies := le_trans (sub.filter _).length_le h.takenReplies }
        (fun hp => absurd period hp)
    case h_2 n rest _ hn =>
      exact h.withPort { h.port with notices := (hn ▸ h.noticesOk : NoticesOk (n :: rest)).tail }
        (fun hp => absurd period hp)
    · exact h

theorem portOk_resetStart (p : ControlPort) : PortOk p.resetStart :=
  ⟨by simp [ControlPort.resetStart], by simp [ControlPort.resetStart], by simp [ControlPort.resetStart], noticesOk_nil⟩

theorem PortOk.sent {p : ControlPort} (h : PortOk p) : PortOk p.sent := by
  unfold ControlPort.sent
  split <;> exact ⟨h.requests, h.fullAnswers, h.takenReplies, h.notices⟩

theorem ControlPort.sent_sending (p : ControlPort) : p.sent.sending = none := by
  unfold ControlPort.sent
  split <;> rfl

/-! ### Resets (R176 to R179) -/

theorem screensOk_fresh : ScreensOk (Four.replicate Screen.fresh) :=
  ⟨fun i u hu => by simp [Screen.fresh] at hu, fun i j _ a ha => by simp [Screen.tiles, Screen.fresh] at ha⟩

/-- The start of a full reset leaves nothing of what was before: the stores are kept from any state. -/
theorem storesOk_beginFull (s : State) (p : ResetPeriod) (full : p.showSafe = false) : StoresOk (s.beginFull p) where
  meter := meterOk_nil
  tracker := trackerOk_fresh
  cues := cuesOk_nil
  pages := pagesOk_nil
  screens := screensOk_fresh
  tiles := by simp [State.beginFull, State.setPeriod, State.fullStart, PanelBus.fresh, freshTiles, Tile.fresh]
  history := Nat.zero_le _
  requests := (portOk_resetStart s.port).requests
  fullAnswers := (portOk_resetStart s.port).fullAnswers
  takenReplies := (portOk_resetStart s.port).takenReplies
  notices := (portOk_resetStart s.port).notices.atMost
  onePosition := (portOk_resetStart s.port).notices.onePosition
  drive := by simp [State.beginFull, State.setPeriod, State.fullStart, Ownership.resetStart]
  fullPeriod _ _ _ := ⟨rfl, rfl⟩
  request h := absurd (h p rfl) (by simp [full])
  sending _ := rfl

theorem calm_takeReports (s : State) : Calm s s.takeReports := by
  have emptied : Calm s { s with reports := [] } := {}
  exact emptied.trans (Calm.foldl _ calm_takeReport _ _)

@[simp] theorem State.showSafeSched_history (s : State) : s.showSafeSched.history = s.sched.history := by
  unfold State.showSafeSched
  cases s.sched.mode <;> rfl

/-- The start of a show-safe reset, but for the control port's part. -/
theorem calm_showSafeStart (s : State) : Calm s (s.showSafeStart.setPort s.port) := by
  have reports := calm_takeReports s
  have abandoned := reports.trans ((calm_abortTest _ .reset).trans (calm_abandon _))
  exact {
    pending := abandoned.pending, showClock := abandoned.showClock
    meter := abandoned.meter, cues := abandoned.cues, pages := abandoned.pages, drive := abandoned.drive
    tracker := fun h => (reports.tracker h).showSafe _ _
    setups := fun i => by simpa [State.showSafeStart, Screen.showSafe] using abandoned.setups i
    addresses := by simpa [State.showSafeStart, PanelBus.showSafe] using abandoned.addresses
    history := fun h => by simpa [State.showSafeStart] using reports.history h
    shadow := abandoned.shadow, request := abandoned.request, busRequest := abandoned.busRequest
    period := abandoned.period }

theorem storesOk_beginShowSafe {s : State} (h : StoresOk s) (period : s.resetUnit.period = none) (p : ResetPeriod)
    (safe : p.showSafe = true) : StoresOk (s.beginShowSafe p) := by
  have calm := calm_showSafeStart s
  have before := calm.stores h
  have empty : PortOk s.showSafeStart.port := portOk_resetStart _
  exact { before with
    requests := empty.requests, fullAnswers := empty.fullAnswers, takenReplies := empty.takenReplies
    notices := empty.notices.atMost, onePosition := empty.notices.onePosition
    fullPeriod := fun q hq hf => by
      cases hq
      simp [safe] at hf
    request := fun _ => before.request (by rw [calm.period, period]; simp)
    sending := fun _ => rfl }

/-- A period goes on, of the same kind. -/
theorem storesOk_setPeriod {s : State} (h : StoresOk s) {p q : ResetPeriod} (period : s.resetUnit.period = some p)
    (kind : q.showSafe = p.showSafe) : StoresOk (s.setPeriod (some q)) :=
  { h with
    fullPeriod := fun r hr hf => by
      cases hr
      exact h.fullPeriod p period (kind ▸ hf)
    request := fun hr => h.request fun r hr' => by
      rw [period] at hr'
      cases hr'
      exact kind ▸ hr q rfl
    sending := fun _ => h.sending (by rw [period]; simp) }

theorem calm_showSafeEnd (s : State) : Calm s s.showSafeEnd :=
  (calm_composeWork _).after ((calm_restoreAll _).after {})

/-- The end of a period: REQUEST follows BUS_REQUEST again, and DRIVE stays as the state has it. -/
theorem storesOk_endPeriod {s : State} (h : StoresOk s) {p q : ResetPeriod} (period : s.resetUnit.period = some p)
    (kind : q.showSafe = p.showSafe) (fastStrap : Bool) : StoresOk (s.endPeriod q fastStrap) := by
  unfold State.endPeriod
  split
  case isTrue safe =>
    have ended : StoresOk { s with
        resetUnit := { s.resetUnit with period := none, cause := q.cause, showSafe := q.showSafe }
        port := { s.port with rate := if fastStrap then Config.fastRate else Config.slowRate } } :=
      { h with
        fullPeriod := fun _ hr => by cases hr
        request := fun _ => h.request fun r hr => by
          rw [period] at hr
          cases hr
          exact kind ▸ safe
        sending := fun hr => absurd rfl hr }
    exact (calm_showSafeEnd _).stores ((calm_post _ _).stores ended)
  case isFalse full =>
    have full : p.showSafe = false := kind ▸ (by simpa using full)
    obtain ⟨state, -⟩ := h.fullPeriod p period full
    have drive : s.own.drive = false := by
      have := h.drive
      simp [state] at this
      exact this
    have ended : StoresOk { s.fullEnd with
        resetUnit := { s.resetUnit with period := none, cause := q.cause, showSafe := q.showSafe }
        port := { s.port with rate := if fastStrap then Config.fastRate else Config.slowRate } } :=
      { h with
        drive := by
          simp only [State.fullEnd, drive]
          split <;> simp
        fullPeriod := fun _ hr => by cases hr
        request := fun _ => rfl
        sending := fun hr => absurd rfl hr }
    have calm := calm_post { s.fullEnd with
        resetUnit := { s.resetUnit with period := none, cause := q.cause, showSafe := q.showSafe }
        port := { s.port with rate := if fastStrap then Config.fastRate else Config.slowRate } }
      (.hello q.cause q.showSafe Config.revision (if fastStrap then Config.fastRate else Config.slowRate)
        s.bus.sweepNumber)
    exact calm.stores ended

theorem storesOk_settlePeriod {s : State} (h : StoresOk s) {p q : ResetPeriod} (period : s.resetUnit.period = some p)
    (kind : q.showSafe = p.showSafe) (fastStrap : Bool) : StoresOk (s.settlePeriod q fastStrap) := by
  unfold State.settlePeriod
  split
  · exact storesOk_endPeriod h period kind fastStrap
  · exact storesOk_setPeriod h period kind

theorem storesOk_fullDuring {s : State} (h : StoresOk s) {p : ResetPeriod} (period : s.resetUnit.period = some p) :
    StoresOk (s.fullDuring p) := by
  have spent : Calm s s.spendFree := {}
  unfold State.fullDuring
  split
  · exact storesOk_beginFull s _ rfl
  · split
    · exact storesOk_setPeriod (spent.stores h) period rfl
    · exact storesOk_setPeriod (spent.stores h) period rfl

theorem storesOk_resetRises {s : State} (h : StoresOk s) (keep : Bool) : StoresOk (s.resetRises keep) := by
  have raised : Calm s { s with resetUnit := { s.resetUnit with line := true } } := {}
  unfold State.resetRises
  split
  · exact h
  · simp only
    split
    case h_1 hp => exact storesOk_beginShowSafe (raised.stores h) hp _ rfl
    case h_2 => exact storesOk_beginFull _ _ rfl
    case h_3 p hp => exact storesOk_setPeriod (p := p) (raised.stores h) hp rfl
    case h_4 p hp => exact storesOk_fullDuring (raised.stores h) hp

theorem storesOk_resetEvent {s : State} (h : StoresOk s) (event : ReleaseEvent) (fastStrap : Bool) :
    StoresOk (s.resetEvent event fastStrap) := by
  have fallen : Calm s { s with resetUnit := { s.resetUnit with line := false } } := {}
  cases event with
  | resetFalls =>
    simp only [State.resetEvent]
    split
    case h_1 p hp => exact storesOk_settlePeriod (p := p) (fallen.stores h) hp (by rfl) fastStrap
    case h_2 => exact fallen.stores h
  | supplyReady =>
    simp only [State.resetEvent]
    split
    case h_1 p hp => exact storesOk_settlePeriod (p := p) h hp (by rfl) fastStrap
    case h_2 => exact h

theorem storesOk_restartExpires {s : State} (h : StoresOk s) (fastStrap : Bool) :
    StoresOk (s.restartExpires fastStrap) := by
  unfold State.restartExpires
  split
  case h_1 => exact h
  case h_2 p hp =>
    split
    · split
      · exact storesOk_settlePeriod (p := p) h hp (by rfl) fastStrap
      · exact h
    · exact h

/-- A RESTART's reply is sent outside a period: none is sent in one. -/
theorem storesOk_transmitEnds {s : State} (h : StoresOk s) : StoresOk s.transmitEnds := by
  have sent : StoresOk (s.setPort s.port.sent) := h.withPort h.port.sent (fun _ => s.port.sent_sending)
  unfold State.transmitEnds
  simp only
  split
  case isTrue restart =>
    have period : s.resetUnit.period = none := by
      by_contra hp
      simp [ControlPort.sentRestart, h.sending hp] at restart
    exact storesOk_beginShowSafe sent period _ rfl
  case isFalse => exact sent

/-! ### The step -/

/-- Every command keeps the stores. -/
theorem storesOk_exec (c : Instr) {s t : State} (h : StoresOk s) (step : exec c s = .next t) : StoresOk t := by
  have next : ∀ {u : State}, StoresOk u → Host.Outcome.next (φ := Fault) (ρ := Refusal) u = .next t → StoresOk t :=
    fun hu e => by
      cases e
      exact hu
  have calm : ∀ {u : State}, Calm s u → Host.Outcome.next (φ := Fault) (ρ := Refusal) u = .next t → StoresOk t :=
    fun hu => next (hu.stores h)
  have request : ∀ {kind form handle}, (∀ u, Calm u (handle u).1) →
      Host.Outcome.next (φ := Fault) (ρ := Refusal) (s.take kind form handle) = .next t → StoresOk t :=
    fun hu => next (storesOk_take h _ _ (keepsStores_of_calm hu))
  cases c with
  | identify => exact request (fun u => .refl u) step
  | status => exact request (fun u => .refl u) step
  | setParam id v => exact next (storesOk_take h _ _ (keepsStores_setParam id v)) step
  | getParam id => exact request (fun u => calm_getParamRequest u id) step
  | restart => exact request (fun u => {}) step
  | unknownKind => exact next (storesOk_takeUnknown h) step
  | loadMeter entries => exact next (storesOk_take h _ _ (keepsStores_loadMeter entries)) step
  | sync pos => exact request (fun u => calm_syncRequest u pos) step
  | setTempo v => exact request (fun u => { tracker := fun ht => ht.setTempo _ _ }) step
  | tap => exact request calm_tapRequest step
  | loadCue record => exact next (storesOk_take h _ _ (keepsStores_loadCue record)) step
  | deleteCue n => exact next (storesOk_take h _ _ (keepsStores_deleteCue n)) step
  | readCue n mode => exact request (fun u => calm_readCueRequest u n mode) step
  | clearAct => exact next (storesOk_take h _ _ keepsStores_clearAct) step
  | arm pos tempo first held => exact request (fun u => calm_armRequest u pos tempo first held) step
  | stop => exact request calm_stopRequest step
  | go => exact request calm_goRequest step
  | jump n sync fire => exact request (fun u => calm_jumpRequest u n sync fire) step
  | back => exact request calm_backRequest step
  | hold => exact request calm_holdRequest step
  | release => exact request calm_releaseRequest step
  | loadPage page => exact next (storesOk_take h _ _ (keepsStores_loadPage page)) step
  | deletePage id => exact next (storesOk_take h _ _ (keepsStores_deletePage id)) step
  | setScreen n setup => exact next (storesOk_take h _ _ (keepsStores_setScreen n setup)) step
  | showPage page place => exact request (fun u => calm_showPageRequest u page place) step
  | clearOverride place => exact request (fun u => calm_clearOverrideRequest u place) step
  | groupHold => exact request (fun u => {}) step
  | groupRelease => exact request calm_groupReleaseRequest step
  | blackout => exact request calm_blackoutRequest step
  | lift => exact request calm_liftRequest step
  | setListener slot setup => exact request (fun u => calm_setListenerRequest u slot setup) step
  | clearListener slot => exact request (fun u => calm_clearListenerRequest u slot) step
  | readListener slot => exact request (fun u => calm_readListenerRequest u slot) step
  | lineTest echo => exact request (fun u => calm_lineTestRequest u echo) step
  | survey => exact request calm_surveyRequest step
  | controlRecordReceive bytes =>
    simp only [exec, execControlRecordReceive] at step
    split at step
    · exact next h step
    case isFalse running =>
      have period : s.resetUnit.period = none := by simpa [State.inReset] using running
      exact next (h.withPort (h.port.bytes _ _) (fun hp => absurd period hp)) step
  | ctlByteGapExpiry =>
    simp only [exec, execCtlByteGapExpiry] at step
    split at step
    · exact next (h.withPort (p := s.port.dropRecord) ⟨h.requests, h.fullAnswers, h.takenReplies, h.noticesOk⟩
        h.sending) step
    · exact next h step
  | transmitStart => exact next (storesOk_transmitStarts h) step
  | transmitEnd => exact next (storesOk_transmitEnds h) step
  | powerOn => exact next (storesOk_beginFull _ _ rfl) step
  | resetAssert keep => exact next (storesOk_resetRises h keep) step
  | resetRelease event fastStrap => exact next (storesOk_resetEvent h event fastStrap) step
  | restartPeriodExpiry fastStrap => exact next (storesOk_restartExpires h fastStrap) step
  | beatPulse => exact calm (calm_beatPulse s) step
  | clampExpiry => exact calm (calm_clampExpires s) step
  | lossExpiry => exact calm (calm_lossExpires s) step
  | sweepBoundary =>
    simp only [exec, execSweepBoundary] at step
    split at step
    · exact next h step
    · split at step
      · exact calm (calm_boundary s _ _ _) step
      · exact next h step
  | controllerBoundary => exact calm (calm_controllerNext s) step
  | forcedCommit => exact calm (calm_controllerIf s _) step
  | quietEntry => exact calm (calm_controllerIf s _) step
  | refreshMark => exact calm (calm_controllerIf s _) step
  | wakeDone => exact calm (calm_controllerIf s _) step
  | schedulerBoundary =>
    simp only [exec, execSchedulerBoundary] at step
    split at step
    · exact next h step
    · exact calm ((calm_schedulerHandles _ _).after {}) step
  | commitReport =>
    simp only [exec, execCommitReport] at step
    split at step
    · exact next h step
    · exact calm ((calm_takeReport _ _).after {}) step
  | slotStart => exact calm (calm_slotStarts s) step
  | ack frame =>
    simp only [exec, execAck] at step
    split at step
    · split at step
      · exact calm (calm_acknowledge s _) step
      · exact next h step
    · exact next h step
  | pollReply frame =>
    simp only [exec, execPollReply] at step
    split at step
    · split at step
      · exact calm (calm_pollAnswered s _ _) step
      · exact next h step
    · exact next h step
  | replyWindowClose =>
    simp only [exec, execReplyWindowClose] at step
    split at step
    · split at step
      · exact calm (calm_closeWindow s _) step
      · exact next h step
    · exact next h step
  | ownershipBoundary => exact calm (calm_ownershipNext s) step
  | silenceCountExpiry =>
    simp only [exec, execSilenceCountExpiry] at step
    split at step
    · exact calm (calm_ownershipNext s) step
    · exact next h step
  | divergenceCountExpiry =>
    simp only [exec, execDivergenceCountExpiry] at step
    split at step
    · exact calm (calm_ownershipNext s) step
    · exact next h step
  | contentionCountExpiry =>
    simp only [exec, execContentionCountExpiry] at step
    split at step
    · exact calm (calm_ownershipNext s) step
    · exact next h step
  | peerFrame frame =>
    simp only [exec, execPeerFrame] at step
    split at step
    · split at step
      · exact calm (calm_hearPeer s _) step
      · exact next h step
    · exact next h step
  | grantRise => exact calm (calm_grantRises s) step
  | grantFall => exact calm (calm_grantFalls s) step
  | peerDriveRise => exact calm (calm_peerDriveRises s) step
  | peerDriveFall => exact calm {} step
  | lineTestPulse echo =>
    simp only [exec, execLineTestPulse] at step
    split at step
    · exact next h step
    · split at step
      · exact calm {} step
      · exact next h step
  | lineTestComplete =>
    simp only [exec, execLineTestComplete] at step
    split at step
    · exact next h step
    · split at step
      · exact calm (calm_completeTest s) step
      · exact next h step
  | showFrame bytes => exact calm (calm_showBytes s bytes) step
  | showByteGapExpiry =>
    simp only [exec, execShowByteGapExpiry] at step
    split at step
    · exact calm {} step
    · exact next h step
  | refractoryExpiry slot =>
    simp only [exec, execRefractoryExpiry] at step
    split at step
    · exact next h step
    · exact calm {} step
  | showFrameFails bytes => exact calm (calm_showBytes s bytes) step

/-- Settles O58: the front command keeps the stores by `storesOk_exec`, and the clock's tick touches none. -/
theorem everyStepKeepsTheStores : Obligations.EveryStepKeepsTheStores := by
  unfold Obligations.EveryStepKeepsTheStores
  intro s t h hstep
  unfold step at hstep
  split at hstep
  case h_1 c rest _ =>
    have taken : StoresOk { s with pending := rest } := { h with }
    exact storesOk_exec c taken hstep
  case h_2 =>
    cases hstep
    exact { h with }

end Sys2Proof.Machine
end

section
/-!
The meter map (R3 to R5): the entry that covers a bar or a grain, the two conversions in its terms, and their being each
other's inverse.
-/

namespace Sys2Proof.Machine

set_option Elab.async false

/-! ### The last entry that meets a condition -/

theorem getLast?_filter_of_split {α : Type} {p : α → Bool} {l pre post : List α} {e : α} (split : l = pre ++ e :: post)
    (he : p e = true) (hpost : ∀ x ∈ post, p x = false) : (l.filter p).getLast? = some e := by
  have none : post.filter p = [] := by simpa [List.filter_eq_nil_iff] using hpost
  rw [split, List.filter_append, List.filter_cons_of_pos he, none, List.getLast?_concat]

theorem split_of_getLast?_filter {α : Type} {p : α → Bool} {l : List α} {e : α}
    (h : (l.filter p).getLast? = some e) :
    ∃ pre post, l = pre ++ e :: post ∧ p e = true ∧ ∀ x ∈ post, p x = false := by
  induction l with
  | nil => simp at h
  | cons a rest ih =>
    cases hr : (rest.filter p).getLast? with
    | some f =>
      have : f = e := by
        cases ha : p a <;> simp_all [List.getLast?_cons]
      obtain ⟨pre, post, split, he, hpost⟩ := ih (this ▸ hr)
      exact ⟨a :: pre, post, by rw [split, List.cons_append], he, hpost⟩
    | none =>
      rw [List.getLast?_eq_none_iff] at hr
      cases ha : p a with
      | false => simp [ha, hr] at h
      | true =>
        simp [ha, hr] at h
        subst h
        exact ⟨[], rest, rfl, ha, by simpa [List.filter_eq_nil_iff] using hr⟩

/-! ### The order of the entries -/

/-- Two entries of a map, the first of them earlier in bars and in grains. -/
def Below (a b : MeterEntry) : Prop := a.firstBar < b.firstBar ∧ a.startGrain < b.startGrain

theorem meterNext.below {a b : MeterEntry} (h : meterNext a b) (ha : 1 ≤ a.beats) : Below a b := by
  obtain ⟨bars, grains⟩ := h
  refine ⟨bars, ?_⟩
  have : 0 < (b.firstBar - a.firstBar) * a.beats * 192 :=
    Nat.mul_pos (Nat.mul_pos (Nat.sub_pos_of_lt bars) ha) (by decide)
  omega

theorem MeterOk.pairwise {meter : List MeterEntry} (h : MeterOk meter) : meter.Pairwise Below := by
  have trans : IsTrans MeterEntry Below := ⟨fun a b c hab hbc => ⟨hab.1.trans hbc.1, hab.2.trans hbc.2⟩⟩
  rw [← List.isChain_iff_pairwise]
  exact List.IsChain.imp_of_mem_imp
    (fun a _ ha _ hab => hab.below (h.ranges a ha).2.1) h.rising

/-- The entry that covers a bar or a grain, with what comes after it: nothing, or entries from the next one's on. -/
structure Covers (meter : List MeterEntry) (e : MeterEntry) (post : List MeterEntry) : Prop where
  member : e ∈ meter
  firstBar : 1 ≤ e.firstBar ∧ e.firstBar ≤ 9999
  beats : 1 ≤ e.beats ∧ e.beats ≤ 16
  next : ∀ f ∈ post.head?, meterNext e f ∧ f.firstBar ≤ 9999
  later : ∀ f ∈ post.head?, ∀ x ∈ post, f.firstBar ≤ x.firstBar ∧ f.startGrain ≤ x.startGrain
  last : post = [] → endGrain meter = some (e.startGrain + (9999 - e.firstBar + 1) * e.beats * 192 - 1)
  ending : post ≠ [] → ∃ z ∈ post, ∃ last, endGrain meter = some last ∧ z.startGrain ≤ last

theorem endGrain_of_getLast? {meter : List MeterEntry} {z : MeterEntry} (hz : meter.getLast? = some z) :
    endGrain meter = some (z.startGrain + (9999 - z.firstBar + 1) * z.beats * 192 - 1) := by
  rw [endGrain, hz]
  rfl

theorem MeterOk.firstBar_pos {meter : List MeterEntry} (h : MeterOk meter) {e : MeterEntry} (he : e ∈ meter) :
    1 ≤ e.firstBar := by
  cases meter with
  | nil => cases he
  | cons a rest =>
    have first := (h.first a rfl).1
    rcases List.mem_cons.mp he with rfl | he
    · omega
    · have := ((List.pairwise_cons.mp h.pairwise).1 e he).1
      omega

theorem MeterOk.covers {meter pre post : List MeterEntry} {e : MeterEntry} (h : MeterOk meter)
    (split : meter = pre ++ e :: post) : Covers meter e post := by
  have he : e ∈ meter := by simp [split]
  have hpost : ∀ x ∈ post, x ∈ meter := fun x hx => by simp [split, hx]
  have chain : (e :: post).IsChain meterNext := (split ▸ h.rising).right_of_append
  have pairs : (e :: post).Pairwise Below := (List.pairwise_append.mp (split ▸ h.pairwise)).2.1
  obtain ⟨bar, one, sixteen⟩ := h.ranges e he
  refine ⟨he, ⟨h.firstBar_pos he, bar⟩, ⟨one, sixteen⟩, ?_, ?_, ?_, ?_⟩
  · intro f hf
    cases post with
    | nil => cases hf
    | cons f' rest =>
      cases hf
      exact ⟨(List.isChain_cons_cons.mp chain).1, (h.ranges f (hpost f (by simp))).1⟩
  · intro f hf x hx
    cases post with
    | nil => cases hf
    | cons f' rest =>
      cases hf
      rcases List.mem_cons.mp hx with rfl | hx
      · exact ⟨le_rfl, le_rfl⟩
      · have below := (List.pairwise_cons.mp (List.pairwise_cons.mp pairs).2).1 x hx
        exact ⟨below.1.le, below.2.le⟩
  · rintro rfl
    exact endGrain_of_getLast? (by rw [split, List.getLast?_concat])
  · intro hne
    obtain ⟨z, hz⟩ : ∃ z, post.getLast? = some z := ⟨_, List.getLast?_eq_some_getLast hne⟩
    have hzm : meter.getLast? = some z := by
      rw [split, List.getLast?_append, List.getLast?_cons, hz]
      rfl
    have zin := List.mem_of_getLast? hz
    obtain ⟨zbar, zone, -⟩ := h.ranges z (hpost z zin)
    have : 1 * 1 ≤ (9999 - z.firstBar + 1) * z.beats := Nat.mul_le_mul (by omega) zone
    exact ⟨z, zin, _, endGrain_of_getLast? hzm, by omega⟩

/-- What lies below the next entry's start lies below the start of every later entry. -/
theorem Covers.below_all {meter post : List MeterEntry} {e : MeterEntry} (h : Covers meter e post) {g : Nat}
    (hg : ∀ f ∈ post.head?, g < f.startGrain) : ∀ x ∈ post, g < x.startGrain := by
  intro x hx
  cases post with
  | nil => cases hx
  | cons f rest => exact lt_of_lt_of_le (hg f rfl) (h.later f rfl x hx).2

theorem Covers.bar_below_all {meter post : List MeterEntry} {e : MeterEntry} (h : Covers meter e post) {bar : Nat}
    (hb : ∀ f ∈ post.head?, bar < f.firstBar) : ∀ x ∈ post, bar < x.firstBar := by
  intro x hx
  cases post with
  | nil => cases hx
  | cons f rest => exact lt_of_lt_of_le (hb f rfl) (h.later f rfl x hx).1

/-! ### The two conversions -/

/-- R4, from the entry that covers the bar. -/
theorem toGrains_eq_of_covers {meter pre post : List MeterEntry} {e : MeterEntry} {p : Bbg}
    (split : meter = pre ++ e :: post) (he : e.firstBar ≤ p.bar) (hpost : ∀ x ∈ post, p.bar < x.firstBar) :
    toGrains meter p =
      if 1 ≤ p.bar ∧ p.bar ≤ 9999 ∧ 1 ≤ p.beat ∧ p.beat ≤ e.beats ∧ p.grain ≤ 191 then
        some (e.startGrain + (p.bar - e.firstBar) * e.beats * 192 + (p.beat - 1) * 192 + p.grain)
      else none := by
  rw [toGrains, getLast?_filter_of_split split (by simpa using he) (fun x hx => by simpa using hpost x hx)]
  rfl

/-- R5, from the entry that covers the grain: the grain as bars, beats and grains past the entry's start. -/
theorem toBbg_eq_of_covers {meter pre post : List MeterEntry} {e : MeterEntry} {k beat grain : Nat}
    (split : meter = pre ++ e :: post) (hbeat : beat < e.beats) (hgrain : grain < 192)
    (hpost : ∀ x ∈ post, e.startGrain + (k * e.beats * 192 + beat * 192 + grain) < x.startGrain) :
    toBbg meter (e.startGrain + (k * e.beats * 192 + beat * 192 + grain)) =
      some { bar := e.firstBar + k, beat := beat + 1, grain := grain } := by
  have below : beat * 192 + grain < e.beats * 192 := by omega
  have quotient : (k * e.beats * 192 + beat * 192 + grain) / (e.beats * 192) = k := by
    rw [show k * e.beats * 192 + beat * 192 + grain = beat * 192 + grain + e.beats * 192 * k by ring,
      Nat.add_mul_div_left _ _ (by omega), Nat.div_eq_of_lt below, Nat.zero_add]
  rw [toBbg, getLast?_filter_of_split split (by simp) (fun x hx => by simpa using hpost x hx)]
  simp only [Nat.add_sub_cancel_left, quotient]
  rw [show k * (e.beats * 192) = k * e.beats * 192 by ring,
    show k * e.beats * 192 + beat * 192 + grain - k * e.beats * 192 = beat * 192 + grain by omega,
    show (beat * 192 + grain) / 192 = beat by omega]
  simp

/-- A position that converts lies in the covering entry's bars, and its grains below the next entry's start. -/
theorem toGrains_eq_some {meter : List MeterEntry} (h : MeterOk meter) {p : Bbg} {g : Nat}
    (hp : toGrains meter p = some g) :
    toBbg meter g = some p ∧ ∃ last, endGrain meter = some last ∧ g ≤ last := by
  cases hl : (meter.filter (fun e => decide (e.firstBar ≤ p.bar))).getLast? with
  | none => simp [toGrains, hl] at hp
  | some e =>
    obtain ⟨pre, post, split, he, hpost⟩ := split_of_getLast?_filter hl
    have he : e.firstBar ≤ p.bar := by simpa using he
    have hpost : ∀ x ∈ post, p.bar < x.firstBar := fun x hx => by simpa using hpost x hx
    have cov := h.covers split
    rw [toGrains_eq_of_covers split he hpost] at hp
    obtain ⟨⟨-, bar, beat, beats, grain⟩, rfl⟩ := Option.ite_none_right_eq_some.mp hp |>.imp_right Option.some.inj
    obtain ⟨k, hk⟩ : ∃ k, p.bar = e.firstBar + k := ⟨p.bar - e.firstBar, by omega⟩
    obtain ⟨n, hn⟩ : ∃ n, p.beat = n + 1 := ⟨p.beat - 1, by omega⟩
    rw [hk, hn, Nat.add_sub_cancel_left, Nat.add_sub_cancel]
    have within : k * e.beats * 192 + n * 192 + p.grain < (k + 1) * e.beats * 192 := by
      rw [Nat.succ_mul, Nat.add_mul]
      omega
    have below : ∀ x ∈ post, e.startGrain + (k * e.beats * 192 + n * 192 + p.grain) < x.startGrain := by
      refine cov.below_all fun f hf => ?_
      obtain ⟨⟨-, start⟩, -⟩ := cov.next f hf
      have : (k + 1) * e.beats * 192 ≤ (f.firstBar - e.firstBar) * e.beats * 192 := by
        have := hpost f (List.mem_of_mem_head? hf)
        gcongr
        omega
      omega
    rw [show e.startGrain + k * e.beats * 192 + n * 192 + p.grain
      = e.startGrain + (k * e.beats * 192 + n * 192 + p.grain) by omega]
    refine ⟨?_, ?_⟩
    · rw [toBbg_eq_of_covers split (by omega) (by omega) below, ← hk, ← hn]
    · by_cases hne : post = []
      · have : (k + 1) * e.beats * 192 ≤ (9999 - e.firstBar + 1) * e.beats * 192 := by
          gcongr
          omega
        exact ⟨_, cov.last hne, by omega⟩
      · obtain ⟨z, hz, last, hlast, zle⟩ := cov.ending hne
        exact ⟨last, hlast, le_trans (below z hz).le zle⟩

theorem endGrain_nil : endGrain [] = none := rfl

/-- A grain up to the end grain is one of the covering entry's bars. -/
theorem exists_toBbg {meter : List MeterEntry} (h : MeterOk meter) {g last : Nat} (hlast : endGrain meter = some last)
    (hg : g ≤ last) : ∃ p, toBbg meter g = some p ∧ toGrains meter p = some g := by
  obtain ⟨e, hl⟩ : ∃ e, (meter.filter (fun e => decide (e.startGrain ≤ g))).getLast? = some e := by
    cases meter with
    | nil => cases hlast
    | cons a rest =>
      refine ⟨_, List.getLast?_eq_some_getLast ?_⟩
      rw [List.filter_cons_of_pos (by simp [(h.first a rfl).2])]
      exact List.cons_ne_nil _ _
  obtain ⟨pre, post, split, he, hpost⟩ := split_of_getLast?_filter hl
  have he : e.startGrain ≤ g := by simpa using he
  have hpost : ∀ x ∈ post, g < x.startGrain := fun x hx => by simpa using hpost x hx
  have cov := h.covers split
  obtain ⟨one, sixteen⟩ := cov.beats
  have pos : 0 < e.beats * 192 := by omega
  -- the grain as bars, beats and grains past the entry's start
  obtain ⟨k, r, hr, hgk⟩ : ∃ k r, r < e.beats * 192 ∧ g = e.startGrain + (k * (e.beats * 192) + r) :=
    ⟨(g - e.startGrain) / (e.beats * 192), (g - e.startGrain) % (e.beats * 192), Nat.mod_lt _ pos, by
      have := Nat.div_add_mod' (g - e.startGrain) (e.beats * 192)
      omega⟩
  obtain ⟨beat, grain, hgrain, rfl⟩ : ∃ beat grain, grain < 192 ∧ r = beat * 192 + grain :=
    ⟨r / 192, r % 192, Nat.mod_lt _ (by decide), by omega⟩
  have hgk : g = e.startGrain + (k * e.beats * 192 + beat * 192 + grain) := by
    rw [hgk]
    ring
  have bars : ∀ n, g < e.startGrain + n * e.beats * 192 → k < n := by
    intro n hn
    by_contra hle
    have : n * e.beats * 192 ≤ k * e.beats * 192 := by
      gcongr
      omega
    omega
  have before : ∀ x ∈ post, e.firstBar + k < x.firstBar := by
    refine cov.bar_below_all fun f hf => ?_
    obtain ⟨⟨rise, start⟩, -⟩ := cov.next f hf
    have := bars (f.firstBar - e.firstBar) (start ▸ hpost f (List.mem_of_mem_head? hf))
    omega
  have bar : e.firstBar + k ≤ 9999 := by
    obtain ⟨low, high⟩ := cov.firstBar
    cases post with
    | nil =>
      rw [cov.last rfl] at hlast
      cases hlast
      have : 0 < (9999 - e.firstBar + 1) * e.beats * 192 := by positivity
      have := bars (9999 - e.firstBar + 1) (by omega)
      omega
    | cons f rest =>
      have := (cov.next f rfl).2
      have := before f (List.mem_cons_self ..)
      omega
  refine ⟨{ bar := e.firstBar + k, beat := beat + 1, grain := grain }, ?_, ?_⟩
  · rw [hgk, toBbg_eq_of_covers split (by omega) hgrain (hgk ▸ hpost)]
  · have low := cov.firstBar.1
    rw [toGrains_eq_of_covers split (by simp) before, if_pos (by simp only; omega)]
    simp only [Nat.add_sub_cancel_left, Nat.add_sub_cancel, Option.some.injEq]
    omega

/-- Settles O3. -/
theorem positionConversionsAreInverse : Obligations.PositionConversionsAreInverse := by
  unfold Obligations.PositionConversionsAreInverse
  exact fun meter h => ⟨fun p g hp => toGrains_eq_some h hp, fun g last hlast hg => exists_toBbg h hlast hg⟩

end Sys2Proof.Machine
end

section
/-!
What every step keeps of the show (ShowOk), first part: the invariant by parts, the firings in flight, and the
operations that leave the act and the scheduler alone.
-/

namespace Sys2Proof.Machine

set_option Elab.async false

/-! ### The invariant by parts -/

/-- The list holds a cue of a number. -/
def Listed (cues : List Cue) (n : Nat) : Prop := ∃ c ∈ cues, c.record.number = n

theorem cue?_ne_none {s : State} {n : Nat} : s.cue? n ≠ none ↔ Listed s.cues n := by
  rw [← Option.isSome_iff_ne_none, cue?_isSome]
  rfl

/-- The pointer names a FOLLOW cue of the list. -/
def PointsAtFollow (cues : List Cue) (p : NextPtr) : Prop :=
  ∃ n c, p = .cue n ∧ cues.find? (fun c => c.record.number == n) = some c ∧ c.record.kind = .follow

theorem State.namesFollow_iff {s : State} {p : NextPtr} : s.namesFollow p = true ↔ PointsAtFollow s.cues p := by
  unfold State.namesFollow PointsAtFollow State.cue?
  cases p with
  | absent => simp
  | endOfList => simp
  | cue n =>
    simp only [NextPtr.cue.injEq, exists_and_left, exists_eq_left']
    cases s.cues.find? (fun c => c.record.number == n) <;> simp

/-- What ShowOk asks of the scheduler, against the cue list. -/
structure SchedOk (cues : List Cue) (sc : Scheduler) : Prop where
  idle : sc.next = .absent ↔ sc.mode = .idle
  pendingGo : sc.pendingGo ≠ none → sc.mode ≠ .idle
  follow : sc.follow ≠ none → PointsAtFollow cues sc.next
  next : ∀ n, sc.next = .cue n → Listed cues n
  live : ∀ n ∈ sc.live.cue, Listed cues n
  history : ∀ n ∈ sc.history, Listed cues n
  newest : sc.history ≠ [] → sc.history.getLast? = sc.live.cue

/-- What ShowOk asks of the tracker, against the end of the map. -/
def PositionOk (meter : List MeterEntry) (tr : Tracker) : Prop :=
  tr.mode ≠ .stopped → ∃ last, endGrain meter = some last ∧ tr.confirmed ≤ last

/-- The firings in flight, by cue and trigger: that of the change, and those of the reports on their way (log 9). -/
def State.flights (s : State) : List (Nat × Trigger) :=
  (s.change.bind (fun c => c.firing)).toList.map (fun f => (f.cue, f.trigger))
    ++ s.reports.map (fun r => (r.cue, r.trigger))

/-- What ShowOk asks of the firings in flight. -/
structure FlightsOk (cues : List Cue) (history : List Nat) (flights : List (Nat × Trigger)) : Prop where
  one : flights.length ≤ 1
  listed : ∀ f ∈ flights, Listed cues f.1
  back : ∀ f ∈ flights, f.2 = .back → ∃ h x, history = h ++ [f.1, x]

/-- ShowOk, part by part. -/
structure Show (s : State) : Prop where
  meter : MeterOk s.meter
  cues : CuesOk s.cues
  position : PositionOk s.meter s.tracker
  anchors : ∀ c ∈ s.cues, ∀ g ∈ c.anchorGrains, ∃ last, endGrain s.meter = some last ∧ g ≤ last
  sched : SchedOk s.cues s.sched
  flights : FlightsOk s.cues s.sched.history s.flights

theorem State.mem_flights {s : State} {f : Nat × Trigger} :
    f ∈ s.flights ↔ (∃ c ∈ s.change, ∃ g ∈ c.firing, (g.cue, g.trigger) = f)
      ∨ ∃ r ∈ s.reports, (r.cue, r.trigger) = f := by
  simp only [State.flights, List.mem_append, List.mem_map, Option.mem_toList, Option.mem_def,
    Option.bind_eq_some_iff]
  refine or_congr ⟨?_, ?_⟩ Iff.rfl
  · rintro ⟨g, ⟨c, hc, hg⟩, rfl⟩
    exact ⟨c, hc, g, hg, rfl⟩
  · rintro ⟨c, hc, g, hg, rfl⟩
    exact ⟨g, ⟨c, hc, hg⟩, rfl⟩

theorem inFlight_iff {s : State} {n : Nat} : InFlight s n ↔ ∃ f ∈ s.flights, f.1 = n := by
  unfold InFlight
  constructor
  · rintro (⟨c, hc, f, hf, rfl⟩ | ⟨r, hr, rfl⟩)
    · exact ⟨(f.cue, f.trigger), State.mem_flights.mpr (.inl ⟨c, hc, f, hf, rfl⟩), rfl⟩
    · exact ⟨(r.cue, r.trigger), State.mem_flights.mpr (.inr ⟨r, hr, rfl⟩), rfl⟩
  · rintro ⟨f, hf, rfl⟩
    rcases State.mem_flights.mp hf with ⟨c, hc, g, hg, rfl⟩ | ⟨r, hr, rfl⟩
    · exact .inl ⟨c, hc, g, hg, rfl⟩
    · exact .inr ⟨r, hr, rfl⟩

theorem ShowOk.show {s : State} (h : ShowOk s) : Show s where
  meter := h.meter
  cues := h.cues
  position := h.position
  anchors := h.anchors
  sched :=
    { idle := h.idle, pendingGo := h.pendingGo, newest := h.newest
      follow := fun hf => State.namesFollow_iff.mp (h.follow hf)
      next := fun n hn => cue?_ne_none.mp (h.next n hn)
      live := fun n hn => cue?_ne_none.mp (h.live n hn)
      history := fun n hn => cue?_ne_none.mp (h.history n hn) }
  flights :=
    { one := by
        have one := h.oneReport
        simp only [State.flights, List.length_append, List.length_map]
        cases hc : s.change.bind (fun c => c.firing) with
        | none => simpa using one
        | some f =>
          obtain ⟨c, hc, hf⟩ := Option.bind_eq_some_iff.mp hc
          simp [h.oneFiring c hc (by simp [hf])]
      listed := fun f hf => cue?_ne_none.mp (h.flight f.1 (inFlight_iff.mpr ⟨f, hf, rfl⟩))
      back := fun f hf hb => by
        rcases State.mem_flights.mp hf with ⟨c, hc, g, hg, rfl⟩ | ⟨r, hr, rfl⟩
        · exact h.backFiring c hc g hg hb
        · exact h.backReport r hr hb }

theorem Show.showOk {s : State} (h : Show s) : ShowOk s where
  meter := h.meter
  cues := h.cues
  position := h.position
  anchors := h.anchors
  idle := h.sched.idle
  pendingGo := h.sched.pendingGo
  follow hf := State.namesFollow_iff.mpr (h.sched.follow hf)
  next n hn := cue?_ne_none.mpr (h.sched.next n hn)
  live n hn := cue?_ne_none.mpr (h.sched.live n hn)
  history n hn := cue?_ne_none.mpr (h.sched.history n hn)
  newest := h.sched.newest
  flight n hn := by
    obtain ⟨f, hf, rfl⟩ := inFlight_iff.mp hn
    exact cue?_ne_none.mpr (h.flights.listed f hf)
  oneReport := by
    have := h.flights.one
    simp only [State.flights, List.length_append, List.length_map] at this
    omega
  oneFiring c hc hf := by
    obtain ⟨f, hf⟩ := Option.ne_none_iff_exists'.mp hf
    have := h.flights.one
    simp only [State.flights, List.length_append, List.length_map] at this
    rw [show s.change = some c from hc, Option.bind_some, hf] at this
    simpa using this
  backFiring c hc f hf hb := h.flights.back (f.cue, f.trigger) (State.mem_flights.mpr (.inl ⟨c, hc, f, hf, rfl⟩)) hb
  backReport r hr hb := h.flights.back (r.cue, r.trigger) (State.mem_flights.mpr (.inr ⟨r, hr, rfl⟩)) hb

theorem FlightsOk.subperm {cues : List Cue} {history : List Nat} {a b : List (Nat × Trigger)}
    (h : FlightsOk cues history a) (sub : b.Subperm a) : FlightsOk cues history b :=
  ⟨le_trans sub.length_le h.one, fun f hf => h.listed f (sub.subset hf), fun f hf => h.back f (sub.subset hf)⟩

theorem flightsOk_nil (cues : List Cue) (history : List Nat) : FlightsOk cues history [] := ⟨by simp, by simp, by simp⟩

/-- Nothing is in flight for the scheduler. -/
theorem State.flight_eq_false {s : State} : s.flight = false ↔ s.change = none ∧ s.reports = [] := by
  unfold State.flight
  cases s.change <;> simp

/-! ### `Steady` -/

/-- The act and the scheduler's standing are the same in both states, no firing has come into flight, and the position
is on the map in the second when it is in the first. -/
structure Steady (s t : State) : Prop where
  meter : t.meter = s.meter := by rfl
  cues : t.cues = s.cues := by rfl
  sched : SchedOk s.cues s.sched → SchedOk s.cues t.sched := by exact fun h => h
  history : t.sched.history = s.sched.history := by rfl
  position : PositionOk s.meter s.tracker → PositionOk s.meter t.tracker := by exact fun h => h
  flights : t.flights.Subperm s.flights := by exact List.Subperm.refl _

theorem Steady.show {s t : State} (h : Steady s t) (hs : Show s) : Show t where
  meter := h.meter ▸ hs.meter
  cues := h.cues ▸ hs.cues
  position := h.meter ▸ h.position hs.position
  anchors := by
    rw [h.cues, h.meter]
    exact hs.anchors
  sched := h.cues ▸ h.sched hs.sched
  flights := by
    rw [h.cues, h.history]
    exact hs.flights.subperm h.flights

theorem Steady.refl (s : State) : Steady s s := {}

theorem Steady.trans {s t u : State} (h1 : Steady s t) (h2 : Steady t u) : Steady s u where
  meter := h2.meter.trans h1.meter
  cues := h2.cues.trans h1.cues
  sched h := h1.cues ▸ h2.sched (h1.cues.symm ▸ h1.sched h)
  history := h2.history.trans h1.history
  position h := h1.meter ▸ h2.position (h1.meter.symm ▸ h1.position h)
  flights := h2.flights.trans h1.flights

theorem Steady.after {s t u : State} (h2 : Steady t u) (h1 : Steady s t) : Steady s u := h1.trans h2

theorem Steady.ite {s t u : State} {p : Prop} [Decidable p] (ht : p → Steady s t) (hu : ¬ p → Steady s u) :
    Steady s (if p then t else u) := by
  split
  · exact ht ‹_›
  · exact hu ‹_›

theorem Steady.foldl {α : Type} (f : State → α → State) (hf : ∀ s a, Steady s (f s a)) (l : List α) (s : State) :
    Steady s (l.foldl f s) := by
  induction l generalizing s with
  | nil => exact refl s
  | cons a rest ih => exact (hf s a).trans (ih (f s a))

/-- An operation that leaves the act, the tracker and the scheduler alone. -/
theorem Same.steady_of_flights {changed : List Field} {s t : State} (h : Same changed s t)
    (flights : t.flights.Subperm s.flights)
    (hn : Field.meter ∉ changed ∧ Field.tracker ∉ changed ∧ Field.cues ∉ changed ∧ Field.sched ∉ changed := by decide) :
    Steady s t where
  meter := h.meter hn.1
  cues := h.cues hn.2.2.1
  sched hs := by rwa [h.sched hn.2.2.2]
  history := by rw [h.sched hn.2.2.2]
  position hp := by rwa [h.tracker hn.2.1]
  flights := flights

/-- The change in flight and the reports unchanged, so are the flights. -/
theorem Same.flights {changed : List Field} {s t : State} (h : Same changed s t)
    (hn : Field.change ∉ changed ∧ Field.reports ∉ changed := by decide) : t.flights = s.flights := by
  rw [State.flights, State.flights, h.change hn.1, h.reports hn.2]

/-- An operation that leaves the change and the reports alone as well. -/
theorem Same.steady {changed : List Field} {s t : State} (h : Same changed s t)
    (hn : Field.meter ∉ changed ∧ Field.tracker ∉ changed ∧ Field.cues ∉ changed ∧ Field.sched ∉ changed
      := by decide)
    (hf : Field.change ∉ changed ∧ Field.reports ∉ changed := by decide) : Steady s t :=
  h.steady_of_flights (h.flights hf ▸ List.Subperm.refl _) hn

/-! ### The composer -/

theorem State.flights_of_change_none {s : State} (h : s.change = none) :
    s.flights = s.reports.map (fun r => (r.cue, r.trigger)) := by
  simp [State.flights, h]

theorem State.flights_handOver (s : State) (c : Change) :
    (s.handOver c).flights = c.firing.toList.map (fun f => (f.cue, f.trigger))
      ++ s.reports.map (fun r => (r.cue, r.trigger)) := rfl

/-- A build with nothing in flight: its firing, if it carries one, and the reports on their way. -/
theorem State.flights_build {s : State} (h : s.change = none) (firing : Option Firing) (carried : List Take)
    (takeover : Bool) :
    (s.build firing carried takeover).flights = firing.toList.map (fun f => (f.cue, f.trigger))
      ++ s.reports.map (fun r => (r.cue, r.trigger)) := by
  unfold State.build
  simp only
  split
  case isTrue nothing =>
    have none : firing = none := by
      simp only [Bool.and_eq_true, Option.isNone_iff_eq_none] at nothing
      exact nothing.1.1
    rw [none, s.spendWork_same.flights, State.flights_of_change_none h]
    rfl
  case isFalse => rfl

theorem steady_composeWork (s : State) : Steady s s.composeWork := by
  refine s.composeWork_same.steady_of_flights ?_
  unfold State.composeWork
  split
  case isTrue idle =>
    have none : s.change = none := by
      simp only [Bool.and_eq_true, Option.isNone_iff_eq_none] at idle
      exact idle.1
    rw [State.flights_build none, State.flights_of_change_none none]
    exact List.Subperm.refl _
  case isFalse => exact List.Subperm.refl _

theorem steady_buildBlackout (s : State) : Steady s s.buildBlackout := by
  refine s.buildBlackout_same.steady_of_flights ?_
  unfold State.buildBlackout
  split
  · rw [State.flights_handOver, State.flights]
    cases s.change <;> exact List.Subperm.refl _
  · exact List.Subperm.refl _

theorem steady_abandon (s : State) : Steady s s.abandon := by
  refine s.abandon_same.steady_of_flights ?_
  rw [State.flights_of_change_none rfl]
  exact (List.sublist_append_right _ _).subperm

/-! ### Marks and commits -/

theorem steady_putMark (s : State) (b : Boundary) (flags : MarkFlags) (given : Four (Option MarkInstr)) :
    Steady s (s.putMark b flags given) := by
  refine (s.putMark_same b flags given).steady_of_flights ?_
  unfold State.flights State.putMark
  cases s.change <;> exact List.Subperm.refl _

theorem steady_plainMark (s : State) (b : Boundary) (flags : MarkFlags) : Steady s (s.plainMark b flags) :=
  steady_putMark s b flags _

/-- A commit turns the change's firing into a report on its way. -/
theorem steady_commitChange (s : State) (b : Boundary) (c : Change) (onBus : Bool)
    (hc : s.change.bind (fun c => c.firing) = c.firing) : Steady s (s.commitChange b c onBus) := by
  refine (s.commitChange_same b c onBus).steady_of_flights ?_
  have reports : (s.commitChange b c onBus).reports = s.reports ++ s.reportOf b c onBus := rfl
  rw [State.flights_of_change_none rfl, reports, State.flights, hc, List.map_append]
  refine List.Perm.subperm (List.perm_append_comm.trans (List.Perm.append_right _ (List.Perm.of_eq ?_)))
  unfold State.reportOf
  cases c.firing <;> rfl

theorem steady_afterCommit (s : State) (c : Change) : Steady s (s.afterCommit c) :=
  (steady_composeWork _).after {}

theorem steady_commitMark (s : State) (b : Boundary) (flags : MarkFlags) (c : Change)
    (hc : s.change.bind (fun c => c.firing) = c.firing) : Steady s (s.commitMark b flags c) :=
  (steady_commitChange s b c true hc).trans ((steady_putMark _ b flags _).trans (steady_afterCommit _ c))

theorem steady_commitNotional (s : State) (b : Boundary) : Steady s (s.commitNotional b) := by
  unfold State.commitNotional
  split
  case h_1 c hc => exact (steady_commitChange s b c false (by rw [hc]; rfl)).trans (steady_afterCommit _ _)
  case h_2 => exact .refl s

theorem steady_testedMark (s : State) (b : Boundary) (flags : MarkFlags) (rises : Bool) :
    Steady s (s.testedMark b flags rises) := by
  unfold State.testedMark
  split
  case h_1 => exact steady_plainMark s b flags
  case h_2 c hc =>
    have firing : s.change.bind (fun c => c.firing) = c.firing := by rw [hc]; rfl
    refine Steady.ite (fun _ => steady_commitMark s b flags c firing) (fun _ => ?_)
    refine Steady.ite (fun _ => ?_) (fun _ => steady_plainMark s b flags)
    refine Steady.ite (fun _ => ?_) (fun _ => ?_)
    · have forced := s.forceOut_same b c
      refine forced.steady.trans (steady_commitMark _ b flags _ ?_)
      rw [forced.change (by decide)]
      exact firing
    · refine (steady_plainMark _ b flags).after { flights := ?_ }
      rw [State.flights, State.flights, firing]
      exact List.Subperm.refl _

theorem steady_markUncounted (s : State) (b : Boundary) (flags : MarkFlags) (swapTested : Bool) :
    Steady s (s.markUncounted b flags swapTested) := by
  unfold State.markUncounted
  split
  · exact Steady.ite (fun _ => steady_plainMark s b flags) (fun _ => steady_testedMark s b flags false)
  · exact steady_plainMark s b flags

theorem steady_setLink (s : State) (new : LinkState) (sweep : SweepNo) (cause : LinkCause) :
    Steady s (s.setLink new sweep cause) := (s.setLink_same new sweep cause).steady

theorem steady_post (s : State) (n : Notice) : Steady s (s.post n) := (s.post_same n).steady

theorem steady_stopDriving (s : State) (b : Boundary) : Steady s (s.stopDriving b) :=
  (steady_post _ _).after (Steady.trans (steady_commitNotional s b) {})

theorem steady_markFor (s : State) (b : Boundary) (m : MarkCase) : Steady s (s.markFor b m) := by
  cases m
  case idle => exact .refl s
  case notional => exact steady_commitNotional s b
  case stops => exact steady_stopDriving s b
  case ordinary => exact (steady_testedMark s.countRest b _ true).after {}
  case forced => exact (steady_testedMark s.countRest b _ true).after {}
  case quietEntry =>
    exact (steady_plainMark _ b _).after
      ((State.abortSurvey_same _ _).steady.after ((steady_setLink _ _ _ _).after {}))
  case rest => exact {}
  case refresh => exact steady_plainMark s b _
  case quietCommit => exact steady_markUncounted s b _ _
  case wake => exact (steady_plainMark _ b _).after ((steady_setLink _ _ _ _).after {})
  case waking => exact (steady_markUncounted _ b _ _).after {}
  case wakeDone => exact (steady_setLink s _ _ _).trans (steady_markUncounted _ b _ _)

theorem steady_clearPartial (s : State) (which : List (Fin 4)) : Steady s (s.clearPartial which) :=
  (steady_composeWork _).after {}

theorem steady_beforeMark (s : State) : Steady s s.beforeMark := by
  unfold State.beforeMark
  exact Steady.ite (fun _ => .refl s)
    (fun _ => Steady.ite (fun _ => (steady_clearPartial s.spendFree _).after {}) (fun _ => {}))

theorem steady_afterMark (found : List (Fin 4)) (s : State) : Steady s (State.afterMark found s) := by
  unfold State.afterMark
  exact Steady.ite (fun _ => .refl s) (fun _ => steady_clearPartial s _)

theorem steady_controllerNext (s : State) : Steady s s.controllerNext := by
  unfold State.controllerNext
  split
  · exact .refl s
  · exact (steady_afterMark _ _).after ((steady_markFor _ _ _).after ((steady_beforeMark _).after {}))

theorem steady_controllerIf (s : State) (want : MarkCase) : Steady s (s.controllerIf want) := by
  unfold State.controllerIf
  exact Steady.ite (fun _ => steady_controllerNext s) (fun _ => .refl s)

theorem steady_acknowledge (s : State) (w : Window) : Steady s (s.acknowledge w) := by
  have content : ∀ c : Option Change,
      (Option.map (fun c : Change => { c with acked := c.acked ++ [w.tile] }) c).bind (fun c => c.firing)
        = c.bind (fun c => c.firing) := fun c => by cases c <;> rfl
  refine (s.acknowledge_same w).steady_of_flights ?_
  unfold State.acknowledge
  split
  case h_1 | h_2 =>
    unfold State.flights
    rw [content]
    exact List.Subperm.refl _
  all_goals exact List.Subperm.refl _

/-! ### Ownership -/

theorem steady_takeover (s : State) : Steady s s.takeover := by
  refine s.takeover_same.steady_of_flights ?_
  unfold State.takeover
  simp only
  split
  case h_1 c hc =>
    rw [State.flights_build rfl, State.flights, hc]
    exact List.Subperm.refl _
  case h_2 hc =>
    rw [State.flights_build rfl, State.flights, hc]
    exact List.Subperm.refl _

theorem steady_takeLink (s : State) (b : Boundary) : Steady s (s.takeLink b) := (s.takeLink_same b).steady

theorem steady_firstMark (s : State) (b : Boundary) : Steady s (s.firstMark b) := by
  unfold State.firstMark
  simp only
  split
  · exact steady_markUncounted s b _ _
  · exact (steady_markUncounted _ b _ _).after {}
  · exact Steady.ite (fun _ => (steady_plainMark _ b _).after ((steady_setLink _ _ _ _).after {}))
      (fun _ => steady_markUncounted s b _ _)

theorem steady_firstBoundary (s : State) (b : Boundary) : Steady s (s.firstBoundary b) :=
  (steady_beforeMark s).trans ((steady_firstMark _ b).trans (steady_afterMark _ _))

theorem steady_enterDriving (s : State) (b : Boundary) : Steady s (s.enterDriving b) := by
  have drives : Steady s { s.abortTest .driveStart with
      own := { (s.abortTest .driveStart).own with drive := true, state := .driving } } :=
    (s.abortTest_same .driveStart).steady.trans {}
  exact drives.trans ((steady_takeLink _ b).trans
    (Steady.trans (Steady.ite (fun _ => steady_takeover _) (fun _ => .refl _))
      ((steady_firstBoundary _ b).trans (State.driven_same _ b).steady)))

theorem steady_grantedBoundary (s : State) (b : Boundary) : Steady s (s.grantedBoundary b) := by
  unfold State.grantedBoundary
  refine Steady.ite (fun _ => ?_) (fun _ => Steady.ite (fun _ => steady_enterDriving s b) (fun _ => .refl s))
  exact Steady.ite (fun _ => (steady_post _ _).after {}) (fun _ => {})

end Sys2Proof.Machine
end

section
/-!
What every step keeps of the show (ShowOk), second part: the tracker, the firings, the requests that run the show and
change the act, and the resets.
-/

namespace Sys2Proof.Machine

set_option Elab.async false

/-! ### The tracker -/

theorem limitTo_le (last g : Nat) : limitTo (some last) g ≤ last := min_le_right _ _

theorem downTo_le (step g : Nat) : downTo step g ≤ g := Nat.div_mul_le_self g step

/-- A tracker whose confirmed position is limited to the end of the map. -/
theorem PositionOk.limited {meter : List MeterEntry} {a b : Tracker} (h : PositionOk meter a) (run : a.mode ≠ .stopped)
    (le : ∀ last, endGrain meter = some last → b.confirmed ≤ last) : PositionOk meter b := by
  obtain ⟨last, hl, -⟩ := h run
  exact fun _ => ⟨last, hl, le last hl⟩

/-- A tracker of the same confirmed position that runs only if the other does. -/
theorem PositionOk.congr {meter : List MeterEntry} {a b : Tracker} (h : PositionOk meter a)
    (run : b.mode ≠ .stopped → a.mode ≠ .stopped) (confirmed : b.confirmed = a.confirmed) : PositionOk meter b :=
  fun hb => confirmed ▸ h (run hb)

theorem positionOk_stopped {meter : List MeterEntry} {tr : Tracker} (h : tr.mode = .stopped) : PositionOk meter tr :=
  fun run => absurd h run

theorem PositionOk.advanced {meter : List MeterEntry} {tr : Tracker} (h : PositionOk meter tr) (run : tr.mode ≠ .stopped)
    (gain : Nat) (t : ShowTime) : PositionOk meter (tr.advanced (endGrain meter) gain t) := by
  refine h.limited run fun last hl => ?_
  have limited : (tr.advance (endGrain meter) t).confirmed ≤ last := by
    rw [hl]
    exact limitTo_le last _
  unfold Tracker.advanced
  split
  · exact limited
  · exact limited

theorem PositionOk.count {meter : List MeterEntry} {tr : Tracker} (h : PositionOk meter tr) (report : Nat) :
    PositionOk meter (tr.count report).1 := by
  unfold Tracker.count
  split
  · split
    · exact h.congr id rfl
    · exact h.congr id rfl
  · exact h

theorem Tracker.takePpb_mode (tr : Tracker) : tr.takePpb.mode = tr.mode := by
  unfold Tracker.takePpb
  split <;> rfl

theorem Tracker.takePpb_confirmed (tr : Tracker) : tr.takePpb.confirmed = tr.confirmed := by
  unfold Tracker.takePpb
  split <;> rfl

theorem Tracker.syncTo_confirmed_le (tr : Tracker) (g : Nat) (t : ShowTime) : (tr.syncTo g t).confirmed ≤ g := by
  unfold Tracker.syncTo
  simp only
  split
  · exact downTo_le _ g
  · exact downTo_le _ g

/-- SYNC to a position on the map (R17). -/
theorem positionOk_syncTo {meter : List MeterEntry} (tr : Tracker) {g : Nat} (t : ShowTime)
    (on : ∃ last, endGrain meter = some last ∧ g ≤ last) : PositionOk meter (tr.syncTo g t) := by
  obtain ⟨last, hl, hg⟩ := on
  exact fun _ => ⟨last, hl, le_trans (tr.syncTo_confirmed_le g t) hg⟩

theorem positionOk_arm {meter : List MeterEntry} (tr : Tracker) {g : Nat} (tempo : Option Nat)
    (on : ∃ last, endGrain meter = some last ∧ g ≤ last) : PositionOk meter (tr.arm g tempo) := by
  obtain ⟨last, hl, hg⟩ := on
  exact fun _ => ⟨last, hl, le_trans (downTo_le _ g) hg⟩

theorem PositionOk.setTempo {meter : List MeterEntry} {tr : Tracker} (h : PositionOk meter tr) (v : Nat) (t : ShowTime) :
    PositionOk meter (tr.setTempo v t) := by
  unfold Tracker.setTempo
  split <;> exact h.congr id rfl

theorem endGrain_of_ne_nil {meter : List MeterEntry} (h : meter ≠ []) : ∃ last, endGrain meter = some last := by
  unfold endGrain
  rw [List.getLast?_eq_some_getLast h]
  exact ⟨_, rfl⟩

theorem positionOk_adopt {meter : List MeterEntry} (h : meter ≠ []) (tr : Tracker) (g v : Nat) :
    PositionOk meter (tr.adopt (endGrain meter) g v) := by
  obtain ⟨last, hl⟩ := endGrain_of_ne_nil h
  refine fun _ => ⟨last, hl, ?_⟩
  rw [hl]
  exact le_trans (downTo_le _ _) (limitTo_le last g)

theorem PositionOk.showSafe {meter : List MeterEntry} {tr : Tracker} (h : PositionOk meter tr) (t : ShowTime) :
    PositionOk meter (tr.showSafe (endGrain meter) t) := by
  unfold Tracker.showSafe
  split
  case h_1 g hg =>
    have run : tr.mode ≠ .stopped := fun stopped => by simp [Tracker.positionAt, stopped] at hg
    refine h.limited run fun last hl => ?_
    rw [hl]
    exact limitTo_le last _
  case h_2 => exact h.congr id rfl

theorem steady_countPulse (s : State) (tr : Tracker) (h : PositionOk s.meter s.tracker → PositionOk s.meter tr) :
    Steady s (s.countPulse tr) := by
  have set : Steady s { s with tracker := (tr.count s.params.positionReport).1 } :=
    { position := fun hp => (h hp).count _ }
  unfold State.countPulse
  exact Steady.ite (fun _ => set.trans (steady_post _ _)) (fun _ => set)

theorem classify_stopped {tr : Tracker} {t : ShowTime} (h : tr.classify t ≠ .ignored) : tr.mode ≠ .stopped :=
  fun stopped => h (by simp [Tracker.classify, stopped])

theorem steady_pulse (s : State) : Steady s s.pulse.1 := by
  have moved : s.tracker.classify s.showClock ≠ .ignored → PositionOk s.meter s.tracker →
      PositionOk s.meter (s.tracker.advanced (endGrain s.meter) s.params.followGain s.showClock) :=
    fun taken h => h.advanced (classify_stopped taken) _ _
  unfold State.pulse
  simp only
  split
  case h_1 | h_2 => exact .refl s
  case h_3 marked =>
    have run : s.tracker.mode ≠ .stopped := classify_stopped (t := s.showClock) (by simp [marked])
    exact { position := fun hp => hp.congr (fun _ => run) rfl }
  case h_4 taken | h_5 taken => exact steady_countPulse s _ (moved (by simp [taken]))
  case h_6 taken =>
    have posted := s.post_same (.beatRegained
      (fullPos s.meter (some (s.tracker.advanced (endGrain s.meter) s.params.followGain s.showClock).confirmed))
      (s.tracker.advanced (endGrain s.meter) s.params.followGain s.showClock).tempo)
    refine posted.steady.trans (steady_countPulse _ _ fun hp => ?_)
    rw [posted.meter (by decide), posted.tracker (by decide)] at hp
    rw [posted.meter (by decide)]
    exact moved (by simp [taken]) hp

theorem steady_beatPulse (s : State) : Steady s s.beatPulse := by
  unfold State.beatPulse
  exact Steady.ite (fun _ => .refl s) (fun _ => steady_pulse s)

theorem steady_clampExpires (s : State) : Steady s s.clampExpires := by
  unfold State.clampExpires
  exact Steady.ite (fun due => { position := fun hp => hp.congr (fun _ => by simp [due.1]) rfl }) (fun _ => .refl s)

theorem steady_lossExpires (s : State) : Steady s s.lossExpires := by
  unfold State.lossExpires
  refine Steady.ite (fun due => (steady_post _ _).after { position := fun hp => hp.congr (fun _ => ?_) rfl })
    (fun _ => .refl s)
  rcases due.1 with mode | mode <;> simp [mode]

theorem steady_tapRequest (s : State) : Steady s s.tapRequest.1 := by
  unfold State.tapRequest
  simp only
  split
  · exact .refl s
  · exact steady_pulse s

theorem steady_syncGrains (s : State) {g : Nat} (on : ∃ last, endGrain s.meter = some last ∧ g ≤ last) :
    Steady s (s.syncGrains g).1 :=
  { position := fun _ => positionOk_syncTo _ _ on }

theorem steady_adoptPosition (s : State) (f : SweepFrame) (g : Nat) : Steady s (s.adoptPosition f g) := by
  unfold State.adoptPosition
  refine Steady.ite (fun _ => {}) (fun mapped => ?_)
  have set : Steady s { s with tracker := s.tracker.adopt (endGrain s.meter) g f.tempo } :=
    { position := fun _ => positionOk_adopt mapped _ _ _ }
  exact Steady.ite (fun _ => set) (fun _ => (steady_post _ _).after (set.trans {}))

theorem steady_followPosition (s : State) (f : SweepFrame) : Steady s (s.followPosition f) := by
  unfold State.followPosition
  refine Steady.ite (fun _ => .refl s) (fun _ => ?_)
  split
  · exact Steady.ite (fun _ => steady_adoptPosition s f _) (fun _ => {})
  · exact {}

theorem steady_hearPeer (s : State) (f : SweepFrame) : Steady s (s.hearPeer f) :=
  (steady_followPosition _ f).after ((State.lockTimer_same _ f).steady.after {})

/-! ### The pointer and the FOLLOW timer -/

theorem pointTo_ne_absent (l : List Cue) : pointTo l ≠ .absent := by cases l <;> simp [pointTo]

theorem listed_of_pointTo {l : List Cue} {n : Nat} (h : pointTo l = .cue n) : Listed l n := by
  cases l with
  | nil => simp [pointTo] at h
  | cons c rest => exact ⟨c, List.mem_cons_self .., by simpa [pointTo] using h⟩

theorem Listed.mono {l m : List Cue} {n : Nat} (h : Listed l n) (sub : ∀ c ∈ l, c ∈ m) : Listed m n := by
  obtain ⟨c, hc, hn⟩ := h
  exact ⟨c, sub c hc, hn⟩

theorem State.following_ne_absent (s : State) (n : Nat) : s.following n ≠ .absent := pointTo_ne_absent _

theorem State.listed_of_following {s : State} {n m : Nat} (h : s.following n = .cue m) : Listed s.cues m :=
  (listed_of_pointTo h).mono fun _ hc => (List.mem_filter.mp hc).1

theorem State.pointsAtFollow_of_followFor {s : State} {p : NextPtr} (h : s.followFor p ≠ none) :
    PointsAtFollow s.cues p := by
  unfold State.followFor at h
  split at h
  case isTrue named => exact State.namesFollow_iff.mp named
  case isFalse => exact absurd rfl h

theorem SchedOk.raise {cues : List Cue} {sc : Scheduler} (h : SchedOk cues sc) : SchedOk cues sc.raise := by
  unfold Scheduler.raise
  split
  all_goals
    refine { h with follow := fun running => h.follow fun stopped => ?_ }
    rw [stopped] at running
    exact running rfl

/-! ### Firings -/

theorem State.lapse_sched (s : State) (cause : LapseCause) :
    (s.lapse cause).sched = { s.sched with pendingGo := none } := by
  unfold State.lapse
  split
  · simp
  case h_2 none => rw [← none]

theorem steady_lapse (s : State) (cause : LapseCause) : Steady s (s.lapse cause) where
  meter := (s.lapse_same cause).meter (by decide)
  cues := (s.lapse_same cause).cues (by decide)
  sched h := by
    rw [State.lapse_sched]
    exact { h with pendingGo := fun held => absurd rfl held }
  history := by rw [State.lapse_sched]
  position := by
    rw [(s.lapse_same cause).tracker (by decide)]
    exact id
  flights := (s.lapse_same cause).flights ▸ List.Subperm.refl _

/-- R50: what a firing leaves: the pointer given, no FOLLOW timer, and a change in flight that carries it. -/
theorem State.fire_sched (s : State) (c : Cue) (trigger : Trigger) (next : NextPtr) :
    (s.fire c trigger next).sched = { s.sched with next := next, follow := none } := by
  unfold State.fire State.buildFiring
  rw [(State.build_same _ _ _ _).sched (by decide)]
  simp only [(s.consumeLatch_same c.record).sched (by decide)]

theorem State.fire_flights {s : State} (h : s.flight = false) (c : Cue) (trigger : Trigger) (next : NextPtr) :
    (s.fire c trigger next).flights = [(c.record.number, trigger)] := by
  obtain ⟨change, reports⟩ := State.flight_eq_false.mp h
  have latch := s.consumeLatch_same c.record
  unfold State.fire State.buildFiring
  rw [State.flights_build (by simp only [latch.change (by decide), change])]
  simp only [latch.reports (by decide), reports]
  rfl

/-- A firing keeps the show: nothing is in flight, the cue and the pointer's next are of the list, and BACK fires the
entry before the newest. -/
theorem Show.fire {s : State} (h : Show s) (idle : s.flight = false) {c : Cue} (hc : c ∈ s.cues) {trigger : Trigger}
    {next : NextPtr} (absent : next = .absent ↔ s.sched.mode = .idle) (listed : ∀ n, next = .cue n → Listed s.cues n)
    (back : trigger = .back → ∃ l x, s.sched.history = l ++ [c.record.number, x]) : Show (s.fire c trigger next) := by
  have same := s.fire_same c trigger next
  have sched := s.fire_sched c trigger next
  have cues : (s.fire c trigger next).cues = s.cues := same.cues (by decide)
  have meter : (s.fire c trigger next).meter = s.meter := same.meter (by decide)
  constructor
  · exact meter ▸ h.meter
  · exact cues ▸ h.cues
  · rw [meter, same.tracker (by decide)]
    exact h.position
  · rw [cues, meter]
    exact h.anchors
  · rw [cues, sched]
    exact { h.sched with idle := absent, next := listed, follow := fun running => absurd rfl running }
  · rw [cues, sched, State.fire_flights idle]
    refine ⟨by simp, ?_, ?_⟩
    · simp only [List.mem_singleton, forall_eq]
      exact ⟨c, hc, rfl⟩
    · simp only [List.mem_singleton, forall_eq]
      exact back

/-- A firing of any source but BACK, which moves the pointer to the following cue. -/
theorem Show.fireNext {s : State} (h : Show s) (idle : s.flight = false) (runs : s.sched.mode ≠ .idle) {c : Cue}
    (hc : c ∈ s.cues) {trigger : Trigger} (other : trigger ≠ .back) (n : Nat) :
    Show (s.fire c trigger (s.following n)) :=
  h.fire idle hc (iff_of_false (s.following_ne_absent n) runs) (fun _ hm => State.listed_of_following hm)
    (fun back => absurd back other)

theorem State.nextCue?_mem {s : State} {c : Cue} (h : s.nextCue? = some c) : c ∈ s.cues := by
  unfold State.nextCue? at h
  split at h
  · exact (cue?_mem h).1
  · cases h

theorem Show.firePending {s : State} (h : Show s) (idle : s.flight = false) (runs : s.sched.mode ≠ .idle)
    (g : PendingGo) : Show (s.firePending g) := by
  unfold State.firePending
  split
  case h_1 c hc =>
    have emptied : Steady s { s with sched := { s.sched with pendingGo := none } } :=
      { sched := fun hs => { hs with pendingGo := fun held => absurd rfl held } }
    exact (emptied.show h).fireNext idle runs (c := c) (State.nextCue?_mem hc) (by cases g <;> decide) c.record.number
  case h_2 => exact (steady_lapse s _).show h

theorem steady_skip (b : Boundary) (chosen : Nat) (pos : Option FullPos) (s : State) (c : Cue) :
    Steady s (s.skip b chosen pos c) := (State.skip_same b chosen pos s c).steady

theorem Same.flight {changed : List Field} {s t : State} (h : Same changed s t)
    (hn : Field.change ∉ changed ∧ Field.reports ∉ changed := by decide) : t.flight = s.flight := by
  rw [State.flight, State.flight, h.change hn.1, h.reports hn.2]

theorem readyRun_subset (s : State) (b : Boundary) (first : Bool) (used : List (Fin 4)) (l : List Cue) :
    ∀ c ∈ s.readyRun b first used l, c ∈ l := by
  induction l generalizing first used with
  | nil => simp [State.readyRun]
  | cons d rest ih =>
    intro c hc
    unfold State.readyRun at hc
    split at hc
    · rcases List.mem_cons.mp hc with rfl | hc
      · exact List.mem_cons_self ..
      · exact List.mem_cons_of_mem _ (ih _ _ c hc)
    · simp at hc

theorem mem_of_choose {l : List Cue} {c : Cue} (h : choose l = some c) : c ∈ l := by
  unfold choose at h
  split at h
  case h_1 d hd =>
    cases h
    exact List.dropLast_subset _ (List.mem_of_find?_eq_some hd)
  case h_2 => exact List.mem_of_getLast? h

theorem State.fromPointer_subset (s : State) : ∀ c ∈ s.fromPointer, c ∈ s.cues := by
  intro c hc
  unfold State.fromPointer at hc
  split at hc
  · exact (List.mem_filter.mp hc).1
  · simp at hc

theorem State.readySet_subset (s : State) (b : Boundary) : ∀ c ∈ s.readySet b, c ∈ s.cues :=
  fun c hc => s.fromPointer_subset c (readyRun_subset s b _ _ _ c hc)

theorem kindTrigger_ne_back (k : CueKind) : kindTrigger k ≠ .back := by cases k <;> decide

theorem Show.evaluate {s : State} (h : Show s) (idle : s.flight = false) (runs : s.sched.mode ≠ .idle) (b : Boundary) :
    Show (s.evaluate b) := by
  unfold State.evaluate
  simp only
  split
  case h_1 => exact h
  case h_2 c hc =>
    split
    · have skipped := Same.foldl (State.skip b c.record.number (s.fullPositionAt (s.readingTime b)))
        (State.skip_same b _ _) ((s.readySet b).takeWhile (fun d => decide (d.record.number < c.record.number))) s
      refine (skipped.steady.show h).fireNext ?_ ?_ ?_ (kindTrigger_ne_back _) c.record.number
      · rw [skipped.flight]
        exact idle
      · rw [skipped.sched (by decide)]
        exact runs
      · rw [skipped.cues (by decide)]
        exact s.readySet_subset b c (mem_of_choose hc)
    · exact h

theorem Show.afterRaise {s : State} (h : Show s) (b : Boundary) : Show (s.afterRaise b) := by
  unfold State.afterRaise
  split
  case isTrue => exact h
  case isFalse free =>
    have idle : s.flight = false := by simpa using free
    split
    case h_1 => exact h
    case h_2 g _ runs => exact h.firePending idle (fun hm => runs hm) g
    case h_3 mode _ => exact h.evaluate idle (by simp [mode]) b
    case h_4 => exact h

theorem Show.schedulerHandles {s : State} (h : Show s) (b : Boundary) : Show (s.schedulerHandles b) := by
  have raised : Steady s { s with sched := s.sched.raise } :=
    { sched := fun hs => hs.raise, history := Scheduler.raise_history _ }
  unfold State.schedulerHandles
  split
  · exact h
  · exact (raised.show h).afterRaise b

theorem Show.adoptCue {s : State} (h : Show s) (n : Nat) : Show (s.adoptCue n) := by
  unfold State.adoptCue
  split
  case isTrue => exact h
  case isFalse free =>
    split
    case h_1 => exact h
    case h_2 c hc =>
      have idle : s.flight = false := by simpa using free
      refine (steady_lapse _ _).show (h.fire idle (cue?_mem hc).1 ?_ ?_ (fun back => by cases back))
      · split
        case isTrue rests => simp [rests, h.sched.idle.mpr rests]
        case isFalse runs => exact iff_of_false (s.following_ne_absent n) runs
      · intro m hm
        split at hm
        · exact h.sched.next m hm
        · exact State.listed_of_following hm

/-! ### The commit report -/

theorem mem_pushHistory {history : List Nat} {n m : Nat} (h : m ∈ pushHistory history n) : m ∈ history ∨ m = n := by
  unfold pushHistory at h
  split at h
  · simpa using h
  · exact (by simpa using h : m ∈ history.tail ∨ m = n).imp_left List.mem_of_mem_tail

theorem getLast?_pushHistory (history : List Nat) (n : Nat) : (pushHistory history n).getLast? = some n := by
  simp [pushHistory]

/-- A report that is on its way is alone in flight. -/
theorem Show.alone {s : State} (h : Show s) {r : CommitReport} {rest : List CommitReport} (hr : s.reports = r :: rest) :
    rest = [] ∧ s.change.bind (fun c => c.firing) = none := by
  have one := h.flights.one
  simp only [State.flights, hr, List.length_append, List.length_map, List.length_cons] at one
  constructor
  · exact List.eq_nil_of_length_eq_zero (by omega)
  · cases hc : s.change.bind (fun c => c.firing) with
    | none => rfl
    | some f =>
      rw [hc] at one
      simp only [Option.toList_some, List.length_cons, List.length_nil] at one
      omega

theorem Show.takeReport {s : State} (h : Show s) {r : CommitReport} {rest : List CommitReport}
    (hr : s.reports = r :: rest) : Show (State.takeReport { s with reports := rest } r) := by
  obtain ⟨rfl, change⟩ := h.alone hr
  have mem : (r.cue, r.trigger) ∈ s.flights := State.mem_flights.mpr (.inr ⟨r, by simp [hr], rfl⟩)
  have live : Listed s.cues r.cue := h.flights.listed _ mem
  have history : (∀ n ∈ historyAfter s.sched.history r, Listed s.cues n)
      ∧ (historyAfter s.sched.history r).getLast? = some r.cue := by
    unfold historyAfter
    split
    case isTrue back =>
      obtain ⟨l, x, entries⟩ := h.flights.back _ mem back
      refine ⟨fun n hn => h.sched.history n (List.dropLast_subset _ hn), ?_⟩
      rw [entries, show l ++ [r.cue, x] = (l ++ [r.cue]) ++ [x] by simp, List.dropLast_concat]
      simp
    case isFalse =>
      refine ⟨fun n hn => ?_, getLast?_pushHistory _ _⟩
      rcases mem_pushHistory hn with hn | rfl
      · exact h.sched.history n hn
      · exact live
  refine (steady_post _ _).show { h with sched := ?_, flights := ?_ }
  · exact {
      idle := h.sched.idle, pendingGo := h.sched.pendingGo, next := h.sched.next
      live := fun n hn => by
        cases hn
        exact live
      history := history.1
      newest := fun _ => history.2
      follow := fun running => by
        simp only at running
        split at running
        case isTrue starts =>
          simp only [Bool.and_eq_true] at starts
          exact State.namesFollow_iff.mp starts.1.2
        case isFalse => exact h.sched.follow running }
  · have none : State.flights { s with
        reports := []
        sched := { s.sched with
          live := { cue := some r.cue, sweep := r.sweep, trigger := some r.trigger }
          dwell := 0
          noRise := s.bus.schedulerDue.any (fun b => b.number == r.sweep)
          history := historyAfter s.sched.history r
          follow := if (decide (s.sched.mode ≠ .idle) && s.namesFollow s.sched.next && s.sched.follow.isNone) = true
            then some { count := 0, fresh := s.bus.schedulerDue.any (fun b => b.number == r.sweep) }
            else s.sched.follow } } = [] := by
      simp [State.flights, change]
    exact none ▸ ⟨by simp, by simp, by simp⟩

theorem Show.takeReports {s : State} (h : Show s) : Show s.takeReports ∧ s.takeReports.reports = [] := by
  unfold State.takeReports
  cases hr : s.reports with
  | nil =>
    have emptied : Steady s { s with reports := [] } := { flights := by simp [State.flights, hr, List.Subperm.refl] }
    exact ⟨emptied.show h, rfl⟩
  | cons r rest =>
    have taken := h.takeReport hr
    obtain ⟨rfl, -⟩ := h.alone hr
    exact ⟨taken, (State.takeReport_same _ r).reports (by decide)⟩

end Sys2Proof.Machine
end

section
/-!
What every step keeps of the show (ShowOk), third part: the requests, the listener's actions, the resets and the step.
-/

namespace Sys2Proof.Machine

set_option Elab.async false

/-! ### Requests -/

/-- The handling of a request keeps the show. -/
def KeepsShow (handle : State → State × Status × ReplyBody) : Prop := ∀ s, Show s → Show (handle s).1

theorem keepsShow_of_steady {handle : State → State × Status × ReplyBody} (h : ∀ s, Steady s (handle s).1) :
    KeepsShow handle := fun s hs => (h s).show hs

theorem Show.take {s : State} (h : Show s) (kind : Byte) (form : List Byte → BodyForm)
    {handle : State → State × Status × ReplyBody} (keeps : KeepsShow handle) : Show (s.take kind form handle) := by
  have dropped : Steady s s.dropRequest := {}
  have answered : ∀ (u : State) (code : Status) (body : ReplyBody), Steady u (u.answer kind code body) :=
    fun _ _ _ => {}
  unfold State.take
  split
  · exact h
  · split
    · split
      · exact h
      · exact (answered _ _ _).show (dropped.show h)
      · exact (answered _ _ _).show (keeps _ (dropped.show h))
    · exact h

theorem Show.takeUnknown {s : State} (h : Show s) : Show s.takeUnknown := by
  have taken : ∀ kind, Steady s (s.dropRequest.answer kind .unknownKind .empty) := fun _ => {}
  unfold State.takeUnknown
  split
  · exact h
  · split
    · exact (taken _).show h
    · exact h

theorem Show.syncRequest {s : State} (h : Show s) (p : Bbg) : Show (s.syncRequest p).1 := by
  unfold State.syncRequest
  split
  · exact h
  · split
    case h_1 => exact h
    case h_2 g hg => exact (steady_syncGrains s (toGrains_eq_some h.meter hg).2).show h

theorem keepsShow_refuse (code : Status) : KeepsShow (fun s => refuse s code) := fun _ h => h

/-- A taken ARM sets a pointer that is absent or of the list. -/
theorem Show.armTaken {s : State} (h : Show s) {g : Nat} (on : ∃ last, endGrain s.meter = some last ∧ g ≤ last)
    (tempo : Option Nat) {next : NextPtr} (absent : next ≠ .absent) (listed : ∀ n, next = .cue n → Listed s.cues n)
    (held : Bool) : Show (s.armTaken g tempo next held).1 := by
  have runs : (if held = true then SchedMode.held else .running) ≠ .idle := by cases held <;> decide
  have armed : Steady s { s with
      tracker := s.tracker.arm g tempo
      sched := { s.sched with
        mode := if held then .held else .running, next := next, follow := s.followFor next } } :=
    { position := fun _ => positionOk_arm _ _ on
      sched := fun hs => { hs with
        idle := iff_of_false absent runs
        pendingGo := fun _ => runs
        follow := State.pointsAtFollow_of_followFor
        next := listed } }
  exact ((armed.trans (steady_lapse _ _)).trans {}).show h

theorem keepsShow_armRequest (pos : Bbg) (tempo first : Option Nat) (held : Bool) :
    KeepsShow (fun s => s.armRequest pos tempo first held) := by
  intro s h
  change Show (s.armRequest pos tempo first held).1
  unfold State.armRequest
  split
  · exact h
  · split
    case h_1 => exact h
    case h_2 g hg =>
      have on := (toGrains_eq_some h.meter hg).2
      split
      case h_1 n =>
        split
        · exact h
        · split
          · exact h
          case isFalse found =>
            have listed : Listed s.cues n := cue?_ne_none.mp (by simpa using found)
            exact h.armTaken on tempo (by simp) (fun m hm => by cases hm; exact listed) held
      case h_2 =>
        exact h.armTaken on tempo (pointTo_ne_absent _) (fun _ hm => listed_of_pointTo hm) held

theorem steady_stopRequest (s : State) : Steady s s.stopRequest.1 := by
  have sched : s.stopRequest.1.sched
      = { s.sched with mode := .idle, next := .absent, follow := none, pendingGo := none } :=
    State.lapse_sched _ _
  have lapsed := State.lapse_same { s with
    tracker := s.tracker.stop
    sched := { s.sched with mode := .idle, next := .absent, follow := none } } .stop
  have tracker : s.stopRequest.1.tracker = s.tracker.stop := lapsed.tracker (by decide)
  exact {
    meter := lapsed.meter (by decide)
    cues := lapsed.cues (by decide)
    sched := fun hs => by
      rw [sched]
      exact { hs with
        idle := iff_of_true rfl rfl
        pendingGo := fun held => absurd rfl held
        follow := fun running => absurd rfl running
        next := fun n hn => by cases hn }
    history := by rw [sched]
    position := fun _ => tracker ▸ positionOk_stopped rfl
    flights := List.Perm.subperm (.of_eq lapsed.flights) }

theorem keepsShow_goRequest : KeepsShow State.goRequest := by
  intro s h
  unfold State.goRequest
  split
  case isTrue => exact h
  case isFalse runs =>
    split
    case h_1 => exact h
    case h_2 c hc =>
      split
      · split
        · exact h
        · have waits : Steady s { s with sched := { s.sched with pendingGo := some .go } } :=
            { sched := fun hs => { hs with pendingGo := fun _ => runs } }
          exact waits.show h
      case isFalse free =>
        exact h.fireNext (by simpa using free) runs (State.nextCue?_mem hc) (by decide) _

theorem Show.jumpFire {s : State} (h : Show s) (runs : s.sched.mode ≠ .idle) {c : Cue} (hc : c ∈ s.cues) :
    Show (s.jumpFire c).1 := by
  unfold State.jumpFire
  split
  · have waits : Steady s { s with sched := { s.sched with pendingGo := some .jump } } :=
      { sched := fun hs => { hs with pendingGo := fun _ => runs } }
    exact waits.show h
  case isFalse free => exact h.fireNext (by simpa using free) runs hc (by decide) _

theorem steady_jumpSync (s : State) (anchor : Option Nat)
    (on : ∀ g ∈ anchor, ∃ last, endGrain s.meter = some last ∧ g ≤ last) : Steady s (s.jumpSync anchor).1 := by
  unfold State.jumpSync
  split
  case h_1 g =>
    split
    · exact .refl s
    · exact steady_syncGrains s (on g rfl)
  case h_2 => exact .refl s

theorem State.jumpSync_sched (s : State) (anchor : Option Nat) : (s.jumpSync anchor).1.sched = s.sched := by
  unfold State.jumpSync
  split
  · split <;> rfl
  · rfl

theorem keepsShow_jumpRequest (n : Nat) (withSync withFire : Bool) :
    KeepsShow (fun s => s.jumpRequest n withSync withFire) := by
  intro s h
  change Show (s.jumpRequest n withSync withFire).1
  unfold State.jumpRequest
  split
  case isTrue => exact h
  case isFalse runs =>
    split
    · exact h
    · split
      case h_1 => exact h
      case h_2 c hc =>
        obtain ⟨mem, number⟩ := cue?_mem hc
        split
        · exact h
        · split
          · exact h
          · have pointed : Steady s
                { s with sched := { s.sched with next := .cue n, follow := s.followFor (.cue n) } } :=
              { sched := fun hs => { hs with
                  idle := iff_of_false (by simp) runs
                  follow := State.pointsAtFollow_of_followFor
                  next := fun m hm => by
                    cases hm
                    exact ⟨c, mem, number⟩ } }
            have anchored : ∀ g ∈ (if withSync then c.anchorGrains else none),
                ∃ last, endGrain s.meter = some last ∧ g ≤ last := by
              intro g hg
              split at hg
              · exact h.anchors c mem g hg
              · cases hg
            have synced := steady_jumpSync
              { s with sched := { s.sched with next := .cue n, follow := s.followFor (.cue n) } } _ anchored
            have shown := synced.show (pointed.show h)
            simp only
            split
            · exact shown.jumpFire (by rw [State.jumpSync_sched]; exact runs) (by rw [synced.cues]; exact mem)
            · exact shown

theorem keepsShow_backRequest : KeepsShow State.backRequest := by
  intro s h
  unfold State.backRequest
  split
  case isTrue => exact h
  case isFalse runs =>
    split
    case h_2 => exact h
    case h_1 x y older entries =>
      have history : s.sched.history = older.reverse ++ [y, x] := by
        have := congrArg List.reverse entries
        simpa using this
      split
      · exact h
      case isFalse free =>
        split
        case h_1 => exact h
        case h_2 c hc =>
          obtain ⟨mem, rfl⟩ := cue?_mem hc
          have newest : Listed s.cues x := h.sched.history x (by simp [history])
          have fired := h.fire (by simpa using free) mem (trigger := .back) (next := .cue x)
            (iff_of_false (by simp) runs) (fun m hm => by cases hm; exact newest)
            (fun _ => ⟨older.reverse, x, history⟩)
          have sched := s.fire_sched c .back (.cue x)
          have held : Steady (s.fire c .back (.cue x)) { s.fire c .back (.cue x) with
              sched := { (s.fire c .back (.cue x)).sched with
                mode := .held, follow := (s.fire c .back (.cue x)).followFor (.cue x) } } :=
            { sched := fun hs => { hs with
                idle := iff_of_false (by simp [sched]) (by simp)
                pendingGo := fun _ => by simp
                follow := fun running => by
                  have points := State.pointsAtFollow_of_followFor running
                  simpa [sched] using points } }
          exact (held.trans (steady_lapse _ _)).show fired

/-- HOLD and RELEASE: outside IDLE another mode that is not IDLE. -/
theorem Show.setMode {s : State} (h : Show s) (runs : s.sched.mode ≠ .idle) {mode : SchedMode} (hm : mode ≠ .idle) :
    Show { s with sched := { s.sched with mode := mode } } := by
  have set : Steady s { s with sched := { s.sched with mode := mode } } :=
    { sched := fun hs => { hs with
        idle := iff_of_false (fun absent => runs (hs.idle.mp absent)) hm
        pendingGo := fun _ => hm } }
  exact set.show h

theorem keepsShow_holdRequest : KeepsShow State.holdRequest := by
  intro s h
  unfold State.holdRequest
  split
  case isTrue => exact h
  case isFalse runs => exact h.setMode runs (by decide)

theorem keepsShow_releaseRequest : KeepsShow State.releaseRequest := by
  intro s h
  unfold State.releaseRequest
  split
  case isTrue => exact h
  case isFalse runs => exact h.setMode runs (by decide)

/-! ### The act -/

theorem keepsShow_loadMeter (entries : List MeterPair) : KeepsShow (fun s => s.loadMeterRequest entries) := by
  intro s h
  change Show (s.loadMeterRequest entries).1
  unfold State.loadMeterRequest
  split
  case isTrue => exact h
  case isFalse quiet =>
    simp only [Bool.or_eq_true, Bool.not_eq_true', List.isEmpty_eq_false_iff, decide_eq_true_eq, not_or,
      not_not] at quiet
    obtain ⟨empty, stopped⟩ := quiet
    split
    · exact h
    case isFalse ok =>
      exact { h with
        meter := meterOk_appendMeter_of_checks h.meter ok
        position := positionOk_stopped stopped
        anchors := fun c hc => by simp [empty] at hc }

/-- R27: a lookup after a cue was put in. -/
theorem find?_insertCue (c : Cue) (l : List Cue) (n : Nat) :
    (insertCue c l).find? (fun d => d.record.number == n)
      = if c.record.number = n then some c else l.find? (fun d => d.record.number == n) := by
  induction l with
  | nil => by_cases hc : c.record.number = n <;> simp [insertCue, hc]
  | cons d rest ih =>
    unfold insertCue
    by_cases hc : c.record.number = n
    · split
      · simp [hc]
      · split
        · simp [hc]
        case isFalse other =>
          have skip : ¬ d.record.number = n := fun hd => other (hc.trans hd.symm)
          rw [List.find?_cons_of_neg (by simpa using skip), ih, if_pos hc]
    · rw [if_neg hc] at ih ⊢
      split
      · simp [hc]
      · split
        case isTrue same =>
          have skip : ¬ d.record.number = n := fun hd => hc (same.trans hd)
          rw [List.find?_cons_of_neg (by simpa using hc), List.find?_cons_of_neg (by simpa using skip)]
        case isFalse => rw [List.find?_cons, List.find?_cons, ih]

theorem listed_iff_find? {l : List Cue} {n : Nat} :
    Listed l n ↔ (l.find? (fun d => d.record.number == n)).isSome = true := by
  simp [Listed, List.find?_isSome]

theorem Listed.insertCue {l : List Cue} {n : Nat} (h : Listed l n) (c : Cue) : Listed (insertCue c l) n := by
  rw [listed_iff_find?, find?_insertCue]
  split
  · rfl
  · exact listed_iff_find?.mp h

theorem mem_of_mem_insertCue {c d : Cue} {l : List Cue} (h : d ∈ insertCue c l) : d = c ∨ d ∈ l := by
  induction l with
  | nil => simpa [insertCue] using h
  | cons e rest ih =>
    unfold insertCue at h
    split at h
    · simpa using h
    · split at h
      · exact (List.mem_cons.mp h).imp_right (List.mem_cons_of_mem _)
      · rcases List.mem_cons.mp h with rfl | h
        · exact .inr (List.mem_cons_self ..)
        · exact (ih h).imp_right (List.mem_cons_of_mem _)

/-- R31: the FOLLOW timer runs after a LOAD_CUE only if the pointer names a FOLLOW cue of the new list. -/
theorem pointsAtFollow_followAfterLoad {s : State} (h : SchedOk s.cues s.sched) {c : CueRecord} {d : Cue}
    (number : d.record.number = c.number) (kind : d.record.kind = c.kind) (running : s.followAfterLoad c ≠ none) :
    PointsAtFollow (insertCue d s.cues) s.sched.next := by
  unfold State.followAfterLoad at running
  split at running
  case isTrue replaced =>
    simp only [Bool.and_eq_true, decide_eq_true_eq] at replaced
    split at running
    case isTrue follow =>
      exact ⟨c.number, d, replaced.2, by rw [find?_insertCue, if_pos number], kind.trans follow⟩
    case isFalse => exact absurd rfl running
  case isFalse kept =>
    obtain ⟨n, e, next, found, follow⟩ := h.follow running
    have other : d.record.number ≠ n := by
      rintro rfl
      have held : Listed s.cues c.number := number ▸ h.next _ next
      refine kept ?_
      rw [Bool.and_eq_true, decide_eq_true_eq, cue?_isSome]
      exact ⟨held, number ▸ next⟩
    exact ⟨n, e, next, by rw [find?_insertCue, if_neg other]; exact found, follow⟩

theorem State.anchorOf_on_map {s : State} (h : MeterOk s.meter) {c : CueRecord} {anchor : Option Nat}
    (ha : s.anchorOf c = .ok anchor) : ∀ g ∈ anchor, ∃ last, endGrain s.meter = some last ∧ g ≤ last := by
  intro g hg
  cases hg
  unfold State.anchorOf at ha
  split at ha
  · cases ha
  · split at ha
    · cases ha
    · split at ha
      · cases ha
      case h_2 found =>
        cases ha
        exact (toGrains_eq_some h found).2

theorem keepsShow_loadCue (c : CueRecord) : KeepsShow (fun s => s.loadCueRequest c) := by
  intro s h
  change Show (s.loadCueRequest c).1
  unfold State.loadCueRequest
  split
  · exact h
  · split
    case h_1 => exact h
    case h_2 anchor ha =>
      split
      · exact h
      · split
        · exact h
        case isFalse room =>
          simp only [Bool.and_eq_true, decide_eq_true_eq, not_and, not_le, cue?_isNone] at room
          exact {
            meter := h.meter
            cues := cuesOk_insertCue h.cues _ (or_iff_not_imp_left.mpr room)
            position := h.position
            anchors := fun d hd => by
              rcases mem_of_mem_insertCue hd with rfl | hd
              · exact State.anchorOf_on_map h.meter ha
              · exact h.anchors d hd
            sched :=
              { idle := h.sched.idle, pendingGo := h.sched.pendingGo, newest := h.sched.newest
                follow := pointsAtFollow_followAfterLoad h.sched rfl rfl
                next := fun n hn => (h.sched.next n hn).insertCue _
                live := fun n hn => (h.sched.live n hn).insertCue _
                history := fun n hn => (h.sched.history n hn).insertCue _ }
            flights := ⟨h.flights.one, fun f hf => (h.flights.listed f hf).insertCue _, h.flights.back⟩ }

/-- The list without a cue. -/
theorem Listed.filter {l : List Cue} {n m : Nat} (h : Listed l m) (other : m ≠ n) :
    Listed (l.filter (fun c => c.record.number != n)) m := by
  obtain ⟨c, hc, rfl⟩ := h
  exact ⟨c, List.mem_filter.mpr ⟨hc, by simpa using other⟩, rfl⟩

theorem find?_filter_of_ne (l : List Cue) {n m : Nat} (other : m ≠ n) :
    (l.filter (fun c => c.record.number != n)).find? (fun c => c.record.number == m)
      = l.find? (fun c => c.record.number == m) := by
  rw [List.find?_filter]
  refine congrArg (fun p => l.find? p) (funext fun c => ?_)
  by_cases hc : c.record.number = m
  · simp [hc, other]
  · simp [hc]

theorem State.cueInFlight_iff {s : State} {n : Nat} : s.cueInFlight n = true ↔ ∃ f ∈ s.flights, f.1 = n := by
  rw [← inFlight_iff]
  unfold State.cueInFlight InFlight
  cases hc : s.change with
  | none => simp
  | some c =>
    cases hf : c.firing <;> simp [hf]

/-- The history without a cue that is not the newest entry. -/
theorem filter_concat_of_ne (l : List Nat) {n x : Nat} (other : x ≠ n) :
    (l ++ [x]).filter (fun m => m != n) = l.filter (fun m => m != n) ++ [x] := by
  simp [List.filter_append, other]

/-- A DELETE_CUE of an unused cue, but for the pointer: the lists without it. -/
theorem Show.delete {s : State} (h : Show s) {n : Nat} (live : s.sched.live.cue ≠ some n)
    (flying : ∀ f ∈ s.flights, f.1 ≠ n) {next : NextPtr} {follow : Option FollowTimer}
    (absent : next = .absent ↔ s.sched.mode = .idle)
    (listed : ∀ m, next = .cue m → Listed (s.cues.filter (fun c => c.record.number != n)) m)
    (points : follow ≠ none → PointsAtFollow (s.cues.filter (fun c => c.record.number != n)) next) :
    Show { s with
      cues := s.cues.filter (fun c => c.record.number != n)
      sched := { s.sched with
        history := s.sched.history.filter (fun m => m != n), next := next, follow := follow } } := by
  have newest : s.sched.history ≠ [] → ∃ l x, s.sched.history = l ++ [x] ∧ s.sched.live.cue = some x ∧ x ≠ n := by
    intro held
    have last := h.sched.newest held
    rw [List.getLast?_eq_some_getLast held] at last
    refine ⟨s.sched.history.dropLast, s.sched.history.getLast held, (List.dropLast_concat_getLast held).symm,
      last.symm, fun same => live ?_⟩
    rw [← last, same]
  exact {
    meter := h.meter
    cues := h.cues.sublist List.filter_sublist
    position := h.position
    anchors := fun c hc => h.anchors c (List.mem_filter.mp hc).1
    sched :=
      { idle := absent, next := listed, follow := points, pendingGo := h.sched.pendingGo
        live := fun m hm => (h.sched.live m hm).filter (fun same => live (same ▸ hm))
        history := fun m hm => by
          obtain ⟨mem, other⟩ := List.mem_filter.mp hm
          exact (h.sched.history m mem).filter (by simpa using other)
        newest := fun held => by
          obtain ⟨l, x, history, last, other⟩ := newest fun nil => held (by simp [nil])
          simp only [history, filter_concat_of_ne l other, last, List.getLast?_concat] }
    flights := ⟨h.flights.one, fun f hf => (h.flights.listed f hf).filter (flying f hf), fun f hf back => by
      obtain ⟨l, x, history⟩ := h.flights.back f hf back
      obtain ⟨l', x', history', -, other⟩ := newest (by simp [history])
      have ends : l ++ [f.1] = l' ∧ x = x' := by
        have := history.symm.trans history'
        rw [show l ++ [f.1, x] = (l ++ [f.1]) ++ [x] by simp] at this
        simpa using List.append_inj' this rfl
      obtain ⟨rfl, rfl⟩ := ends
      refine ⟨l.filter (fun m => m != n), x, ?_⟩
      change s.sched.history.filter (fun m => m != n) = _
      rw [history', filter_concat_of_ne _ other, filter_concat_of_ne l (flying f hf), List.append_assoc,
        List.singleton_append]⟩ }

theorem keepsShow_deleteCue (n : Nat) : KeepsShow (fun s => s.deleteCueRequest n) := by
  intro s h
  change Show (s.deleteCueRequest n).1
  unfold State.deleteCueRequest
  split
  · exact h
  · split
    · exact h
    case isFalse unused =>
      simp only [State.cueInUse, Bool.or_eq_true, beq_iff_eq, State.cueInFlight_iff, not_or, not_exists, not_and]
        at unused
      obtain ⟨live, flying⟩ := unused
      simp only [State.deleteCue]
      split
      case isTrue named =>
        have runs : s.sched.mode ≠ .idle := fun idle => by
          rw [h.sched.idle.mpr idle] at named
          cases named
        exact h.delete live flying (iff_of_false (State.following_ne_absent _ n) runs)
          (fun _ hm => State.listed_of_following hm) State.pointsAtFollow_of_followFor
      case isFalse other =>
        refine h.delete live flying h.sched.idle (fun m hm => ?_) (fun running => ?_)
        · exact (h.sched.next m hm).filter fun same => other (same ▸ hm)
        · obtain ⟨m, c, next, found, follow⟩ := h.sched.follow running
          have apart : m ≠ n := fun same => other (same ▸ next)
          exact ⟨m, c, next, (find?_filter_of_ne _ apart).trans found, follow⟩

theorem keepsShow_clearAct : KeepsShow State.clearActRequest := by
  intro s h
  unfold State.clearActRequest
  split
  · exact h
  case isFalse idle =>
    have idle : s.sched.mode = .idle := by simpa using idle
    split
    · exact h
    case isFalse free =>
      obtain ⟨change, reports⟩ := State.flight_eq_false.mp (by simpa using free)
      have absent := h.sched.idle.mpr idle
      have flights : s.clearAct.flights = [] := by
        simp [State.clearAct, State.clearLatches, State.flights, change, reports]
      exact {
        meter := meterOk_nil, cues := cuesOk_nil
        position := positionOk_stopped rfl
        anchors := fun c hc => by cases hc
        sched :=
          { idle := h.sched.idle, pendingGo := h.sched.pendingGo
            follow := fun running => by
              obtain ⟨n, c, next, -⟩ := h.sched.follow running
              rw [absent] at next
              cases next
            next := fun n hn => by
              rw [show s.sched.next = .cue n from hn] at absent
              cases absent
            live := fun n hn => by cases hn
            history := fun n hn => by cases hn
            newest := fun held => absurd rfl held }
        flights := flights ▸ ⟨by simp, by simp, by simp⟩ }

end Sys2Proof.Machine
end

section
/-!
What every step keeps of the show (ShowOk), last part: the remaining requests, the listener's actions, the ownership
unit's boundary, the resets and the step.
-/

namespace Sys2Proof.Machine

set_option Elab.async false

/-! ### Requests that leave the show alone -/

theorem steady_setNumber (s : State) (id least greatest v : Nat) (put : Params → Nat → Params) :
    Steady s (s.setNumber id least greatest v put).1 := {}

theorem steady_setSwitch (s : State) (id v : Nat) (put : Params → Bool → Params) :
    Steady s (s.setSwitch id v put).1 := by
  unfold State.setSwitch
  split
  · exact {}
  · exact .refl s

theorem steady_setBusRequest (s : State) (v : Nat) : Steady s (s.setBusRequest v).1 := by
  unfold State.setBusRequest
  split
  · exact {}
  · exact .refl s

theorem steady_setParamRequest (s : State) (id v : Nat) : Steady s (s.setParamRequest id v).1 := by
  unfold State.setParamRequest
  split
  case h_2 | h_10 =>
    split
    · exact {}
    · exact .refl s
  case h_3 => exact { position := fun hp => hp.congr id rfl }
  case h_12 => exact steady_setBusRequest s v
  case h_13 | h_14 | h_16 => exact steady_setSwitch s _ v _
  case h_19 => exact .refl s
  all_goals exact steady_setNumber s _ _ _ v _

theorem steady_getParamRequest (s : State) (id : Nat) : Steady s (s.getParamRequest id).1 := by
  unfold State.getParamRequest
  split <;> exact .refl s

theorem steady_readCueRequest (s : State) (n : Nat) (mode : ReadMode) : Steady s (s.readCueRequest n mode).1 := by
  unfold State.readCueRequest
  split
  · exact .refl s
  · split <;> exact .refl s

theorem steady_loadPageRequest (s : State) (p : Page) : Steady s (s.loadPageRequest p).1 := by
  unfold State.loadPageRequest
  split
  · exact .refl s
  · split
    · exact .refl s
    · split
      · exact .refl s
      · exact {}

theorem steady_deletePageRequest (s : State) (id : Nat) : Steady s (s.deletePageRequest id).1 := by
  unfold State.deletePageRequest
  split
  · exact .refl s
  · split
    · exact .refl s
    · split
      · exact .refl s
      · exact {}

theorem steady_setScreenRequest (s : State) (n : Nat) (setup : Option ScreenSetup) :
    Steady s (s.setScreenRequest n setup).1 := by
  unfold State.setScreenRequest
  split
  · exact .refl s
  · split
    · exact .refl s
    · split
      · exact .refl s
      · split
        · exact (steady_composeWork _).after {}
        · exact .refl s

theorem steady_putEdit (s : State) (which : List (Fin 4)) (edit : OverrideEdit) : Steady s (s.putEdit which edit) :=
  (steady_composeWork _).after {}

theorem steady_showPageRequest (s : State) (page : Nat) (place : Place) :
    Steady s (s.showPageRequest page place).1 := by
  unfold State.showPageRequest
  split
  · exact .refl s
  · split
    · exact .refl s
    · split
      · exact .refl s
      · split
        · exact .refl s
        · exact steady_putEdit s _ _

theorem steady_clearOverrideRequest (s : State) (place : Place) : Steady s (s.clearOverrideRequest place).1 := by
  unfold State.clearOverrideRequest
  split
  · exact .refl s
  · exact steady_putEdit s _ _

theorem steady_groupReleaseRequest (s : State) : Steady s s.groupReleaseRequest.1 := by
  unfold State.groupReleaseRequest
  split
  · exact (steady_composeWork _).after {}
  · exact .refl s

/-- The blackout flag is no part of what the show asks of the scheduler. -/
theorem steady_setBlackout (s : State) (on : Bool) : Steady s (s.setBlackout on) := { sched := fun h => { h with } }

theorem steady_blackoutRequest (s : State) : Steady s s.blackoutRequest.1 := by
  unfold State.blackoutRequest
  split
  · exact .refl s
  · exact (steady_setBlackout s true).trans (steady_buildBlackout _)

theorem steady_liftRequest (s : State) : Steady s s.liftRequest.1 := by
  unfold State.liftRequest
  split
  · exact (steady_setBlackout s false).trans ((steady_composeWork _).after {})
  · exact .refl s

theorem steady_setListenerRequest (s : State) (n : Nat) (l : ListenerSetup) :
    Steady s (s.setListenerRequest n l).1 := by
  unfold State.setListenerRequest
  split
  · split
    · exact .refl s
    · split
      · exact .refl s
      · exact {}
  · exact .refl s

theorem steady_clearListenerRequest (s : State) (n : Nat) : Steady s (s.clearListenerRequest n).1 := by
  unfold State.clearListenerRequest
  split
  · exact {}
  · exact .refl s

theorem steady_readListenerRequest (s : State) (n : Nat) : Steady s (s.readListenerRequest n).1 := by
  unfold State.readListenerRequest
  split <;> exact .refl s

theorem steady_lineTestRequest (s : State) (e : Echo) : Steady s (s.lineTestRequest e).1 := by
  unfold State.lineTestRequest
  split
  · exact .refl s
  · split
    · exact .refl s
    · exact {}

theorem steady_surveyRequest (s : State) : Steady s s.surveyRequest.1 := by
  unfold State.surveyRequest
  split
  · exact .refl s
  · split
    · exact .refl s
    · exact {}

/-! ### Show-control frames (R146 to R148) -/

theorem Show.deliver {s : State} (h : Show s) (i : Fin 4) (setup : SlotSetup) : Show (s.deliver i setup).1 := by
  unfold State.deliver
  split
  · exact h
  · split
    · unfold State.latchAction
      split
      · exact h
      · have latched : Steady s (s.updSlot i fun sl => { sl with latch := true }) := {}
        exact latched.show h
    · exact keepsShow_goRequest s h
    · exact keepsShow_holdRequest s h
    · exact keepsShow_releaseRequest s h
    · exact (steady_blackoutRequest s).show h
    · exact (steady_liftRequest s).show h
    · unfold State.syncAction
      split
      · exact h.syncRequest _
      · exact h

theorem Show.trySlot {s : State} (h : Show s) (body : List Byte) (arrival : ShowTime) (i : Fin 4) :
    Show (State.trySlot body arrival s i) := by
  unfold State.trySlot
  simp only
  split
  · exact h
  case h_2 setup _ =>
    split
    · have refractory : Steady s
          (s.updSlot i fun sl => { sl with refractoryEnd := refractoryFrom arrival setup.refractoryMs }) := {}
      exact (steady_post _ _).show ((refractory.show h).deliver i setup)
    · exact h

/-- A chain of operations that keep the show. -/
theorem Show.foldl {α : Type} {f : State → α → State} (hf : ∀ s a, Show s → Show (f s a)) (l : List α) {s : State}
    (h : Show s) : Show (l.foldl f s) := by
  induction l generalizing s with
  | nil => exact h
  | cons a rest ih => exact ih (hf s a h)

theorem Show.showByte {s : State} (h : Show s) (b : LineByte) : Show (s.showByte b) := by
  have dropped : ∀ u : State, Steady u u.dropShowFrame := fun u => {}
  have first : Show (if s.showGap then s.dropShowFrame else s) := by
    split
    · exact (dropped s).show h
    · exact h
  unfold State.showByte
  revert first
  generalize (if s.showGap then s.dropShowFrame else s) = u
  intro first
  have received : ∀ r, Steady u (u.setShowReceiver r) := fun r => {}
  have failed : ∀ r, Steady u (u.setShowReceiver r).raiseShowError := fun r => {}
  simp only
  split
  · exact (dropped u).show first
  · split
    · exact (received _).show first
    · exact (failed _).show first
    · exact Show.foldl (fun v i hv => hv.trySlot _ _ i) _ ((received _).show first)

theorem Show.showBytes {s : State} (h : Show s) (bytes : List LineByte) : Show (s.showBytes bytes) := by
  unfold State.showBytes
  split
  · exact h
  · exact Show.foldl (fun u b hu => hu.showByte b) bytes h

/-! ### The ownership unit (R127 to R131) -/

theorem Show.offerAdoption {s : State} (h : Show s) : Show s.offerAdoption := by
  unfold State.offerAdoption
  split
  · split
    · exact h.adoptCue _
    · exact h
  · exact h

theorem Show.compareMirror {s : State} (h : Show s) (b : Boundary) : Show (s.compareMirror b) := by
  unfold State.compareMirror
  split
  · exact ((s.testDivergence_same b).steady.show h).offerAdoption
  · exact h

theorem Show.ownershipHandles {s : State} (h : Show s) (b : Boundary) : Show (s.ownershipHandles b) := by
  have counted := (s.silenceAt_same b).steady.show h
  unfold State.ownershipHandles
  split
  · exact h
  · split
    · exact counted.compareMirror b
    · exact (steady_grantedBoundary _ b).show counted
    · exact h
    · exact h

theorem Show.ownershipNext {s : State} (h : Show s) : Show s.ownershipNext := by
  unfold State.ownershipNext
  split
  · exact h
  case h_2 b rest _ =>
    have taken : Steady s { s with bus := { s.bus with ownershipDue := rest } } := {}
    exact (taken.show h).ownershipHandles b

/-! ### Resets (R176 to R179) -/

/-- The start of a full reset leaves nothing of what was before. -/
theorem show_beginFull (s : State) (p : ResetPeriod) : Show (s.beginFull p) where
  meter := meterOk_nil
  cues := cuesOk_nil
  position := positionOk_stopped rfl
  anchors c hc := by cases hc
  sched :=
    { idle := iff_of_true rfl rfl
      pendingGo := fun held => absurd rfl held
      follow := fun running => absurd rfl running
      next := fun n hn => by cases hn
      live := fun n hn => by cases hn
      history := fun n hn => by cases hn
      newest := fun held => absurd rfl held }
  flights := ⟨Nat.zero_le _, fun _ hf => (List.not_mem_nil hf).elim, fun _ hf => (List.not_mem_nil hf).elim⟩

theorem State.listed_of_resumePointer {s : State} {n : Nat} (h : s.resumePointer = .cue n) : Listed s.cues n := by
  have otherwise : (match s.sched.live.cue with
      | some n => s.following n
      | none => pointTo s.cues) = .cue n → Listed s.cues n := by
    split
    · exact State.listed_of_following
    · exact listed_of_pointTo
  unfold State.resumePointer at h
  simp only at h
  split at h
  · split at h
    case isTrue found =>
      cases h
      exact (cue?_isSome _ _).mp found
    case isFalse => exact otherwise h
  · exact otherwise h

theorem State.resumePointer_ne_absent (s : State) : s.resumePointer ≠ .absent := by
  have otherwise : (match s.sched.live.cue with
      | some n => s.following n
      | none => pointTo s.cues) ≠ .absent := by
    split
    · exact s.following_ne_absent _
    · exact pointTo_ne_absent _
  unfold State.resumePointer
  simp only
  split
  · split
    · simp
    · exact otherwise
  · exact otherwise

/-- R64: a run is held at a cue of the list, and no timer runs. -/
theorem SchedOk.showSafe {s : State} (h : SchedOk s.cues s.sched) : SchedOk s.cues s.showSafeSched := by
  have stopped : SchedOk s.cues { s.sched with pendingGo := none, noRise := false, follow := none } :=
    { h with pendingGo := fun held => absurd rfl held, follow := fun running => absurd rfl running }
  have held : SchedOk s.cues
      { s.sched with pendingGo := none, noRise := false, follow := none, mode := .held, next := s.resumePointer } :=
    { stopped with
      idle := iff_of_false s.resumePointer_ne_absent (by simp)
      pendingGo := fun _ => by simp
      follow := fun running => absurd rfl running
      next := fun n hn => State.listed_of_resumePointer hn }
  unfold State.showSafeSched
  simp only
  split
  · exact stopped
  · exact held
  · exact held

theorem Show.showSafeStart {s : State} (h : Show s) : Show s.showSafeStart := by
  obtain ⟨taken, reports⟩ := h.takeReports
  have abandoned := (s.takeReports.abortTest_same .reset).steady.trans (steady_abandon _)
  have flights : s.showSafeStart.flights = [] := by
    have same : s.showSafeStart.reports = s.takeReports.reports :=
      ((State.abandon_same _).reports (by decide)).trans ((State.abortTest_same _ .reset).reports (by decide))
    simp [State.flights_of_change_none (s := s.showSafeStart) rfl, same, reports]
  have meter : s.showSafeStart.meter = s.takeReports.meter := abandoned.meter
  have cues : s.showSafeStart.cues = s.takeReports.cues := abandoned.cues
  constructor
  · exact meter ▸ taken.meter
  · exact cues ▸ taken.cues
  · rw [meter]
    exact taken.position.showSafe _
  · rw [meter, cues]
    exact taken.anchors
  · rw [cues]
    exact taken.sched.showSafe
  · rw [flights]
    exact ⟨by simp, by simp, by simp⟩

theorem Show.beginShowSafe {s : State} (h : Show s) (p : ResetPeriod) : Show (s.beginShowSafe p) := by
  have set : ∀ u : State, Steady u (u.setPeriod (some p)) := fun u => {}
  exact (set _).show h.showSafeStart

theorem steady_showSafeEnd (s : State) : Steady s s.showSafeEnd := by
  refine (steady_composeWork _).after { sched := fun hs => { hs with follow := fun running => ?_ } }
  simp only at running
  split at running
  · exact State.pointsAtFollow_of_followFor running
  · exact hs.follow running

theorem steady_periodOver (s : State) (p : ResetPeriod) (fastStrap : Bool) :
    Steady s (s.periodOver p fastStrap) := by
  refine Steady.trans (t := { s with
    resetUnit := { s.resetUnit with period := none, cause := p.cause, showSafe := p.showSafe }
    port := { s.port with rate := if fastStrap then Config.fastRate else Config.slowRate } }) {} ?_
  exact steady_post _ _

theorem steady_settlePeriod (s : State) (p : ResetPeriod) (fastStrap : Bool) :
    Steady s (s.settlePeriod p fastStrap) := by
  unfold State.settlePeriod
  refine Steady.ite (fun _ => ?_) (fun _ => {})
  unfold State.endPeriod
  refine Steady.ite (fun _ => ?_) (fun _ => ?_)
  · exact (steady_showSafeEnd _).after (steady_periodOver s p _)
  · have ended : Steady s s.fullEnd := {}
    exact ended.trans (steady_periodOver _ p _)

theorem Show.fullDuring {s : State} (h : Show s) (p : ResetPeriod) : Show (s.fullDuring p) := by
  have spent : ∀ q, Steady s (s.spendFree.setPeriod (some q)) := fun q => {}
  unfold State.fullDuring
  split
  · exact show_beginFull s _
  · split
    · exact (spent _).show h
    · exact (spent _).show h

theorem Show.resetRises {s : State} (h : Show s) (keep : Bool) : Show (s.resetRises keep) := by
  have raised : Steady s { s with resetUnit := { s.resetUnit with line := true } } := {}
  have set : ∀ (u : State) (p : ResetPeriod), Steady u (u.setPeriod (some p)) := fun u p => {}
  unfold State.resetRises
  split
  · exact h
  · simp only
    split
    · exact (raised.show h).beginShowSafe _
    · exact show_beginFull _ _
    · exact (set _ _).show (raised.show h)
    · exact (raised.show h).fullDuring _

theorem steady_resetEvent (s : State) (event : ReleaseEvent) (fastStrap : Bool) :
    Steady s (s.resetEvent event fastStrap) := by
  have fallen : Steady s { s with resetUnit := { s.resetUnit with line := false } } := {}
  cases event with
  | resetFalls =>
    simp only [State.resetEvent]
    split
    · exact fallen.trans (steady_settlePeriod _ _ _)
    · exact fallen
  | supplyReady =>
    simp only [State.resetEvent]
    split
    · exact steady_settlePeriod s _ _
    · exact .refl s

theorem steady_restartExpires (s : State) (fastStrap : Bool) : Steady s (s.restartExpires fastStrap) := by
  unfold State.restartExpires
  split
  · exact .refl s
  · split
    · exact Steady.ite (fun _ => steady_settlePeriod s _ _) (fun _ => .refl s)
    · exact .refl s

theorem Show.transmitEnds {s : State} (h : Show s) : Show s.transmitEnds := by
  have sent : Steady s (s.setPort s.port.sent) := {}
  unfold State.transmitEnds
  simp only
  split
  · exact (sent.show h).beginShowSafe _
  · exact sent.show h

theorem steady_transmitStarts (s : State) : Steady s s.transmitStarts := by
  unfold State.transmitStarts
  refine Steady.ite (fun _ => .refl s) (fun _ => ?_)
  split
  · exact {}
  · exact {}
  · exact .refl s

/-! ### The step -/

/-- Every command keeps the show. -/
theorem show_exec (c : Instr) {s t : State} (h : Show s) (step : exec c s = .next t) : Show t := by
  have next : ∀ {u : State}, Show u → Host.Outcome.next (φ := Fault) (ρ := Refusal) u = .next t → Show t :=
    fun hu e => by
      cases e
      exact hu
  have steady : ∀ {u : State}, Steady s u → Host.Outcome.next (φ := Fault) (ρ := Refusal) u = .next t → Show t :=
    fun hu => next (hu.show h)
  have keeps : ∀ {kind form handle}, KeepsShow handle →
      Host.Outcome.next (φ := Fault) (ρ := Refusal) (s.take kind form handle) = .next t → Show t :=
    fun hu => next (h.take _ _ hu)
  have request : ∀ {kind form handle}, (∀ u, Steady u (handle u).1) →
      Host.Outcome.next (φ := Fault) (ρ := Refusal) (s.take kind form handle) = .next t → Show t :=
    fun hu => keeps (keepsShow_of_steady hu)
  cases c with
  | identify => exact request (fun u => .refl u) step
  | status => exact request (fun u => .refl u) step
  | setParam id v => exact request (fun u => steady_setParamRequest u id v) step
  | getParam id => exact request (fun u => steady_getParamRequest u id) step
  | restart => exact request (fun u => {}) step
  | unknownKind => exact next h.takeUnknown step
  | loadMeter entries => exact keeps (keepsShow_loadMeter entries) step
  | sync pos => exact keeps (fun u hu => hu.syncRequest pos) step
  | setTempo v => exact request (fun u => { position := fun hp => hp.setTempo _ _ }) step
  | tap => exact request steady_tapRequest step
  | loadCue record => exact keeps (keepsShow_loadCue record) step
  | deleteCue n => exact keeps (keepsShow_deleteCue n) step
  | readCue n mode => exact request (fun u => steady_readCueRequest u n mode) step
  | clearAct => exact keeps keepsShow_clearAct step
  | arm pos tempo first held => exact keeps (keepsShow_armRequest pos tempo first held) step
  | stop => exact request steady_stopRequest step
  | go => exact keeps keepsShow_goRequest step
  | jump n sync fire => exact keeps (keepsShow_jumpRequest n sync fire) step
  | back => exact keeps keepsShow_backRequest step
  | hold => exact keeps keepsShow_holdRequest step
  | release => exact keeps keepsShow_releaseRequest step
  | loadPage page => exact request (fun u => steady_loadPageRequest u page) step
  | deletePage id => exact request (fun u => steady_deletePageRequest u id) step
  | setScreen n setup => exact request (fun u => steady_setScreenRequest u n setup) step
  | showPage page place => exact request (fun u => steady_showPageRequest u page place) step
  | clearOverride place => exact request (fun u => steady_clearOverrideRequest u place) step
  | groupHold => exact request (fun u => {}) step
  | groupRelease => exact request steady_groupReleaseRequest step
  | blackout => exact request steady_blackoutRequest step
  | lift => exact request steady_liftRequest step
  | setListener slot setup => exact request (fun u => steady_setListenerRequest u slot setup) step
  | clearListener slot => exact request (fun u => steady_clearListenerRequest u slot) step
  | readListener slot => exact request (fun u => steady_readListenerRequest u slot) step
  | lineTest echo => exact request (fun u => steady_lineTestRequest u echo) step
  | survey => exact request steady_surveyRequest step
  | controlRecordReceive bytes =>
    simp only [exec, execControlRecordReceive] at step
    split at step
    · exact next h step
    · exact steady {} step
  | ctlByteGapExpiry =>
    simp only [exec, execCtlByteGapExpiry] at step
    split at step
    · exact steady {} step
    · exact next h step
  | transmitStart => exact steady (steady_transmitStarts s) step
  | transmitEnd => exact next h.transmitEnds step
  | powerOn => exact next (show_beginFull _ _) step
  | resetAssert keep => exact next (h.resetRises keep) step
  | resetRelease event fastStrap => exact steady (steady_resetEvent s event fastStrap) step
  | restartPeriodExpiry fastStrap => exact steady (steady_restartExpires s fastStrap) step
  | beatPulse => exact steady (steady_beatPulse s) step
  | clampExpiry => exact steady (steady_clampExpires s) step
  | lossExpiry => exact steady (steady_lossExpires s) step
  | sweepBoundary =>
    simp only [exec, execSweepBoundary] at step
    split at step
    · exact next h step
    · split at step
      · exact steady {} step
      · exact next h step
  | controllerBoundary => exact steady (steady_controllerNext s) step
  | forcedCommit => exact steady (steady_controllerIf s _) step
  | quietEntry => exact steady (steady_controllerIf s _) step
  | refreshMark => exact steady (steady_controllerIf s _) step
  | wakeDone => exact steady (steady_controllerIf s _) step
  | schedulerBoundary =>
    simp only [exec, execSchedulerBoundary] at step
    split at step
    · exact next h step
    case h_2 b rest _ =>
      have taken : Steady s { s with bus := { s.bus with schedulerDue := rest } } := {}
      exact next ((taken.show h).schedulerHandles b) step
  | commitReport =>
    simp only [exec, execCommitReport] at step
    split at step
    · exact next h step
    case h_2 hr => exact next (h.takeReport hr) step
  | slotStart => exact steady s.slotStarts_same.steady step
  | ack frame =>
    simp only [exec, execAck] at step
    split at step
    · split at step
      · exact steady (steady_acknowledge s _) step
      · exact next h step
    · exact next h step
  | pollReply frame =>
    simp only [exec, execPollReply] at step
    split at step
    · split at step
      · exact steady (s.pollAnswered_same _ _).steady step
      · exact next h step
    · exact next h step
  | replyWindowClose =>
    simp only [exec, execReplyWindowClose] at step
    split at step
    · split at step
      · exact steady (s.closeWindow_same _).steady step
      · exact next h step
    · exact next h step
  | ownershipBoundary => exact next h.ownershipNext step
  | silenceCountExpiry =>
    simp only [exec, execSilenceCountExpiry] at step
    split at step
    · exact next h.ownershipNext step
    · exact next h step
  | divergenceCountExpiry =>
    simp only [exec, execDivergenceCountExpiry] at step
    split at step
    · exact next h.ownershipNext step
    · exact next h step
  | contentionCountExpiry =>
    simp only [exec, execContentionCountExpiry] at step
    split at step
    · exact next h.ownershipNext step
    · exact next h step
  | peerFrame frame =>
    simp only [exec, execPeerFrame] at step
    split at step
    · split at step
      · exact steady (steady_hearPeer s _) step
      · exact next h step
    · exact next h step
  | grantRise => exact steady s.grantRises_same.steady step
  | grantFall => exact steady s.grantFalls_same.steady step
  | peerDriveRise => exact steady s.peerDriveRises_same.steady step
  | peerDriveFall => exact steady {} step
  | lineTestPulse echo =>
    simp only [exec, execLineTestPulse] at step
    split at step
    · exact next h step
    · split at step
      · exact steady {} step
      · exact next h step
  | lineTestComplete =>
    simp only [exec, execLineTestComplete] at step
    split at step
    · exact next h step
    · split at step
      · exact steady s.completeTest_same.steady step
      · exact next h step
  | showFrame bytes => exact next (h.showBytes bytes) step
  | showByteGapExpiry =>
    simp only [exec, execShowByteGapExpiry] at step
    split at step
    · exact steady {} step
    · exact next h step
  | refractoryExpiry slot =>
    simp only [exec, execRefractoryExpiry] at step
    split at step
    · exact next h step
    · exact steady {} step
  | showFrameFails bytes => exact next (h.showBytes bytes) step

/-- Settles O59: the front command keeps the show by `show_exec`, and the clock's tick touches nothing of it. -/
theorem everyStepKeepsTheShow : Obligations.EveryStepKeepsTheShow := by
  unfold Obligations.EveryStepKeepsTheShow
  intro s t h hstep
  unfold step at hstep
  split at hstep
  case h_1 c rest _ =>
    have taken : Steady s { s with pending := rest } := {}
    exact (show_exec c (taken.show h.show) hstep).showOk
  case h_2 =>
    have ticked : Steady s s.tick := {}
    cases hstep
    exact (ticked.show h.show).showOk

/-- Settles O60: `State.reset` is the state a full reset's period leaves, but for the lines and the end effects. -/
theorem resetKeepsTheInvariants : Obligations.ResetKeepsTheInvariants := by
  have full := storesOk_beginFull State.reset
    { showSafe := false, cause := .power, power := true, line := false, restart := none } rfl
  have shown := show_beginFull State.reset
    { showSafe := false, cause := .power, power := true, line := false, restart := none }
  refine ⟨{ full with
    drive := by decide
    notices := by decide
    onePosition := by decide
    fullPeriod := fun p hp => by cases hp
    request := fun _ => rfl
    sending := fun hp => absurd rfl hp }, ?_⟩
  have flights : State.reset.flights = [] := rfl
  exact Show.showOk { shown with flights := flights ▸ shown.flights }

end Sys2Proof.Machine
end

section
/-!
The step: what it runs, and that every command has a next state that leaves the waiting commands and the show clock
alone.
-/

namespace Sys2Proof.Machine

set_option Elab.async false

/-- Settles O1: `step` as it is defined, case by case. -/
theorem stepRunsTheFrontCommand : Obligations.StepRunsTheFrontCommand := by
  unfold Obligations.StepRunsTheFrontCommand
  refine ⟨fun c rest s h => ?_, fun s h => ?_⟩
  · unfold step
    rw [h]
  · simp only [step, h, State.tick]

/-! ### What no command touches -/

/-- The waiting commands and the show clock are the same in both states. -/
structure Untouched (s t : State) : Prop where
  pending : t.pending = s.pending := by rfl
  showClock : t.showClock = s.showClock := by rfl

theorem Calm.untouched {s t : State} (h : Calm s t) : Untouched s t := ⟨h.pending, h.showClock⟩

namespace Untouched

theorem refl (s : State) : Untouched s s := {}

theorem trans {s t u : State} (h1 : Untouched s t) (h2 : Untouched t u) : Untouched s u :=
  ⟨h2.pending.trans h1.pending, h2.showClock.trans h1.showClock⟩

theorem ite {s t u : State} {p : Prop} [Decidable p] (ht : Untouched s t) (hu : Untouched s u) :
    Untouched s (if p then t else u) := by
  split
  · exact ht
  · exact hu

theorem ite_fst {α : Type} {s : State} {p : Prop} [Decidable p] {t u : State × α} (ht : Untouched s t.1)
    (hu : Untouched s u.1) : Untouched s (if p then t else u).1 := by
  split
  · exact ht
  · exact hu

theorem take {kind : Byte} {form : List Byte → BodyForm} {handle : State → State × Status × ReplyBody}
    (h : ∀ u, Untouched u (handle u).1) (s : State) : Untouched s (s.take kind form handle) := by
  have dropped : Untouched s s.dropRequest := {}
  have answered : ∀ (u : State) (code : Status) (body : ReplyBody), Untouched u (u.answer kind code body) :=
    fun _ _ _ => {}
  unfold State.take
  split
  · exact refl s
  · split
    · split
      · exact refl s
      · exact dropped.trans (answered _ _ _)
      · exact dropped.trans ((h _).trans (answered _ _ _))
    · exact refl s

end Untouched

theorem untouched_takeUnknown (s : State) : Untouched s s.takeUnknown := by
  unfold State.takeUnknown
  split
  · exact .refl s
  · exact Untouched.ite {} (.refl s)

theorem untouched_setParamRequest (s : State) (id v : Nat) : Untouched s (s.setParamRequest id v).1 := by
  have switch : ∀ id put, Untouched s (s.setSwitch id v put).1 := fun _ _ => Untouched.ite_fst {} {}
  unfold State.setParamRequest
  split
  case h_2 | h_10 => split <;> exact {}
  case h_12 => exact Untouched.ite_fst {} {}
  case h_13 | h_14 | h_16 => exact switch _ _
  all_goals exact {}

theorem untouched_loadCueRequest (s : State) (c : CueRecord) : Untouched s (s.loadCueRequest c).1 := by
  unfold State.loadCueRequest
  refine Untouched.ite_fst {} ?_
  split
  · exact {}
  · exact Untouched.ite_fst {} (Untouched.ite_fst {} {})

theorem untouched_deleteCueRequest (s : State) (n : Nat) : Untouched s (s.deleteCueRequest n).1 :=
  Untouched.ite_fst {} (Untouched.ite_fst {} (Untouched.ite {} {}))

theorem untouched_setScreenRequest (s : State) (n : Nat) (setup : Option ScreenSetup) :
    Untouched s (s.setScreenRequest n setup).1 := by
  unfold State.setScreenRequest
  refine Untouched.ite_fst {} (Untouched.ite_fst {} ?_)
  split
  · exact {}
  · exact Untouched.ite_fst (Untouched.trans {} (calm_composeWork _).untouched) {}

theorem untouched_transmitStarts (s : State) : Untouched s s.transmitStarts := by
  unfold State.transmitStarts
  refine Untouched.ite (.refl s) ?_
  split <;> exact {}

theorem untouched_beginShowSafe (s : State) (p : ResetPeriod) : Untouched s (s.beginShowSafe p) :=
  (calm_showSafeStart s).untouched.trans {}

theorem untouched_transmitEnds (s : State) : Untouched s s.transmitEnds :=
  Untouched.ite (Untouched.trans {} (untouched_beginShowSafe (s.setPort s.port.sent) _)) {}

theorem untouched_resetRises (s : State) (keep : Bool) : Untouched s (s.resetRises keep) := by
  unfold State.resetRises
  refine Untouched.ite (.refl s) ?_
  simp only
  split
  · exact Untouched.trans {} (untouched_beginShowSafe _ _)
  · exact {}
  · exact {}
  · exact Untouched.ite {} (Untouched.ite {} {})

theorem untouched_settlePeriod (s : State) (p : ResetPeriod) (fastStrap : Bool) :
    Untouched s (s.settlePeriod p fastStrap) := by
  have ended : ∀ u : State, Untouched u (u.periodOver p fastStrap) := fun u => by
    unfold State.periodOver State.hello
    exact ⟨(calm_post _ _).pending, (calm_post _ _).showClock⟩
  refine Untouched.ite (Untouched.ite ((ended s).trans (calm_showSafeEnd _).untouched) ?_) {}
  exact Untouched.trans {} (ended s.fullEnd)

theorem untouched_resetEvent (s : State) (event : ReleaseEvent) (fastStrap : Bool) :
    Untouched s (s.resetEvent event fastStrap) := by
  cases event with
  | resetFalls =>
    simp only [State.resetEvent]
    split
    · exact Untouched.trans {} (untouched_settlePeriod _ _ _)
    · exact {}
  | supplyReady =>
    simp only [State.resetEvent]
    split
    · exact untouched_settlePeriod s _ _
    · exact {}

theorem untouched_restartExpires (s : State) (fastStrap : Bool) : Untouched s (s.restartExpires fastStrap) := by
  unfold State.restartExpires
  split
  · exact {}
  · split
    · exact Untouched.ite (untouched_settlePeriod s _ _) {}
    · exact {}

/-- A command's outcome is a next state with the waiting commands and, but for POWER_ON, the show clock untouched. -/
def Answers (c : Instr) (s : State) (o : Host.Outcome State Fault Refusal) : Prop :=
  ∃ t, o = .next t ∧ t.pending = s.pending ∧ (c ≠ .powerOn → t.showClock = s.showClock)

theorem answers_next {c : Instr} {s t : State} (h : Untouched s t) : Answers c s (.next t) :=
  ⟨t, rfl, h.pending, fun _ => h.showClock⟩

theorem answers_take {c : Instr} {s : State} {kind : Byte} {form : List Byte → BodyForm}
    {handle : State → State × Status × ReplyBody} (h : ∀ u, Untouched u (handle u).1) :
    Answers c s (.next (s.take kind form handle)) := answers_next (Untouched.take h s)

theorem answers_ite {c : Instr} {s : State} {p : Prop} [Decidable p] {o q : Host.Outcome State Fault Refusal}
    (ho : Answers c s o) (hq : Answers c s q) : Answers c s (if p then o else q) := by
  split
  · exact ho
  · exact hq

theorem answers_exec (c : Instr) (s : State) : Answers c s (exec c s) := by
  have same : ∀ {c}, Answers c s (.next s) := answers_next (.refl s)
  have calm : ∀ {c t}, Calm s t → Answers c s (.next t) := fun h => answers_next h.untouched
  cases c with
  | identify => exact answers_take fun u => .refl u
  | status => exact answers_take fun u => .refl u
  | setParam id v => exact answers_take fun u => untouched_setParamRequest u id v
  | getParam id => exact answers_take fun u => (calm_getParamRequest u id).untouched
  | restart => exact answers_take fun u => {}
  | unknownKind => exact answers_next (untouched_takeUnknown s)
  | loadMeter entries => exact answers_take fun u => Untouched.ite_fst {} (Untouched.ite_fst {} {})
  | sync pos => exact answers_take fun u => (calm_syncRequest u pos).untouched
  | setTempo v => exact answers_take fun u => {}
  | tap => exact answers_take fun u => (calm_tapRequest u).untouched
  | loadCue record => exact answers_take fun u => untouched_loadCueRequest u record
  | deleteCue n => exact answers_take fun u => untouched_deleteCueRequest u n
  | readCue n mode => exact answers_take fun u => (calm_readCueRequest u n mode).untouched
  | clearAct => exact answers_take fun u => Untouched.ite_fst {} (Untouched.ite_fst {} {})
  | arm pos tempo first held => exact answers_take fun u => (calm_armRequest u pos tempo first held).untouched
  | stop => exact answers_take fun u => (calm_stopRequest u).untouched
  | go => exact answers_take fun u => (calm_goRequest u).untouched
  | jump n sync fire => exact answers_take fun u => (calm_jumpRequest u n sync fire).untouched
  | back => exact answers_take fun u => (calm_backRequest u).untouched
  | hold => exact answers_take fun u => (calm_holdRequest u).untouched
  | release => exact answers_take fun u => (calm_releaseRequest u).untouched
  | loadPage page =>
    exact answers_take fun u => Untouched.ite_fst {} (Untouched.ite_fst {} (Untouched.ite_fst {} {}))
  | deletePage id =>
    exact answers_take fun u => Untouched.ite_fst {} (Untouched.ite_fst {} (Untouched.ite_fst {} {}))
  | setScreen n setup => exact answers_take fun u => untouched_setScreenRequest u n setup
  | showPage page place => exact answers_take fun u => (calm_showPageRequest u page place).untouched
  | clearOverride place => exact answers_take fun u => (calm_clearOverrideRequest u place).untouched
  | groupHold => exact answers_take fun u => {}
  | groupRelease => exact answers_take fun u => (calm_groupReleaseRequest u).untouched
  | blackout => exact answers_take fun u => (calm_blackoutRequest u).untouched
  | lift => exact answers_take fun u => (calm_liftRequest u).untouched
  | setListener slot setup => exact answers_take fun u => (calm_setListenerRequest u slot setup).untouched
  | clearListener slot => exact answers_take fun u => (calm_clearListenerRequest u slot).untouched
  | readListener slot => exact answers_take fun u => (calm_readListenerRequest u slot).untouched
  | lineTest echo => exact answers_take fun u => (calm_lineTestRequest u echo).untouched
  | survey => exact answers_take fun u => (calm_surveyRequest u).untouched
  | controlRecordReceive bytes => exact answers_ite same (answers_next {})
  | ctlByteGapExpiry => exact answers_ite (answers_next {}) same
  | transmitStart => exact answers_next (untouched_transmitStarts s)
  | transmitEnd => exact answers_next (untouched_transmitEnds s)
  | powerOn => exact ⟨_, rfl, rfl, fun other => absurd rfl other⟩
  | resetAssert keep => exact answers_next (untouched_resetRises s keep)
  | resetRelease event fastStrap => exact answers_next (untouched_resetEvent s event fastStrap)
  | restartPeriodExpiry fastStrap => exact answers_next (untouched_restartExpires s fastStrap)
  | beatPulse => exact calm (calm_beatPulse s)
  | clampExpiry => exact calm (calm_clampExpires s)
  | lossExpiry => exact calm (calm_lossExpires s)
  | sweepBoundary =>
    simp only [exec, execSweepBoundary]
    split
    · exact same
    · exact answers_ite (calm (calm_boundary s _ _ _)) same
  | controllerBoundary => exact calm (calm_controllerNext s)
  | forcedCommit => exact calm (calm_controllerIf s _)
  | quietEntry => exact calm (calm_controllerIf s _)
  | refreshMark => exact calm (calm_controllerIf s _)
  | wakeDone => exact calm (calm_controllerIf s _)
  | schedulerBoundary =>
    simp only [exec, execSchedulerBoundary]
    split
    · exact same
    · exact calm ((calm_schedulerHandles _ _).after {})
  | commitReport =>
    simp only [exec, execCommitReport]
    split
    · exact same
    · exact calm ((calm_takeReport _ _).after {})
  | slotStart => exact calm (calm_slotStarts s)
  | ack frame =>
    simp only [exec, execAck]
    split
    · exact answers_ite (calm (calm_acknowledge s _)) same
    · exact same
  | pollReply frame =>
    simp only [exec, execPollReply]
    split
    · exact answers_ite (calm (calm_pollAnswered s _ _)) same
    · exact same
  | replyWindowClose =>
    simp only [exec, execReplyWindowClose]
    split
    · exact answers_ite (calm (calm_closeWindow s _)) same
    · exact same
  | ownershipBoundary => exact calm (calm_ownershipNext s)
  | silenceCountExpiry => exact answers_ite (calm (calm_ownershipNext s)) same
  | divergenceCountExpiry => exact answers_ite (calm (calm_ownershipNext s)) same
  | contentionCountExpiry => exact answers_ite (calm (calm_ownershipNext s)) same
  | peerFrame frame =>
    simp only [exec, execPeerFrame]
    refine answers_ite ?_ same
    split
    · exact calm (calm_hearPeer s _)
    · exact same
  | grantRise => exact calm (calm_grantRises s)
  | grantFall => exact calm (calm_grantFalls s)
  | peerDriveRise => exact calm (calm_peerDriveRises s)
  | peerDriveFall => exact answers_next {}
  | lineTestPulse echo =>
    simp only [exec, execLineTestPulse]
    split
    · exact same
    · exact answers_ite (answers_next {}) same
  | lineTestComplete =>
    simp only [exec, execLineTestComplete]
    split
    · exact same
    · exact answers_ite (calm (calm_completeTest s)) same
  | showFrame bytes => exact calm (calm_showBytes s bytes)
  | showByteGapExpiry => exact answers_ite (answers_next {}) same
  | refractoryExpiry slot =>
    simp only [exec, execRefractoryExpiry]
    split
    · exact same
    · exact answers_next {}
  | showFrameFails bytes => exact calm (calm_showBytes s bytes)

/-- Settles O2, command by command in `answers_exec`. -/
theorem everyCommandHasANextState : Obligations.EveryCommandHasANextState := answers_exec

end Sys2Proof.Machine
end

section
/-!
Requests that wait, and the score position and tempo (01): what each command of the chapter leaves.
-/

namespace Sys2Proof.Machine

set_option Elab.async false

/-! ### Taking a request and answering it -/

/-- What a handled request leaves with its reply in the reply path. -/
def answered (kind : Byte) (handled : State × Status × ReplyBody) : State :=
  handled.1.answer kind handled.2.1 handled.2.2

/-- A request whose body has its form, as it is taken and answered (R165). -/
theorem Waiting.answered {s : State} {kind : Byte} {body : List Byte} {rest : List Record}
    (h : Waiting s kind body rest) {form : List Byte → BodyForm} (hf : form body = .good)
    (handle : State → State × Status × ReplyBody) :
    s.take kind form handle = answered kind (handle (s.withRequests rest)) := h.take form handle hf

theorem answered_refuse (s : State) (kind : Byte) (code : Status) :
    answered kind (refuse s code) = s.withReply kind code .empty := s.answer_empty kind code

/-- OK and ADJUSTED carry the body (R164). -/
theorem answered_taken (s : State) (kind : Byte) (body : ReplyBody) {code : Status}
    (hc : code = .ok ∨ code = .adjusted) : answered kind (s, code, body) = s.withReply kind code body := by
  rcases hc with rfl | rfl <;> rfl

/-! ### LOAD_METER (R2, R3) -/

theorem meterRangesOk_iff {entries : List MeterPair} :
    meterRangesOk entries = true
      ↔ ¬ ∃ e ∈ entries, ¬ (1 ≤ e.firstBar ∧ e.firstBar ≤ 9999 ∧ 1 ≤ e.beats ∧ e.beats ≤ 16) := by
  have each : meterRangesOk entries = true ↔ ∀ e ∈ entries,
      1 ≤ e.firstBar ∧ e.firstBar ≤ Config.lastBar ∧ 1 ≤ e.beats ∧ e.beats ≤ 16 := by
    simp only [meterRangesOk, List.all_eq_true, Bool.and_eq_true, decide_eq_true_eq, and_assoc]
  exact each.trans ⟨fun h ⟨e, he, out⟩ => out (h e he), fun h e he => by_contra fun out => h ⟨e, he, out⟩⟩

theorem startsAtOne_iff {meter : List MeterEntry} {entries : List MeterPair} (some : entries ≠ []) :
    startsAtOne meter entries = true
      ↔ ¬ (meter = [] ∧ entries.head?.map (fun e => e.firstBar) ≠ Option.some 1) := by
  cases entries with
  | nil => exact absurd rfl some
  | cons e rest => cases meter <;> simp [startsAtOne]

theorem barsRise_iff (bar : Nat) (entries : List MeterPair) :
    barsRise bar entries = true ↔ (bar :: entries.map (fun e => e.firstBar)).IsChain (· < ·) := by
  induction entries generalizing bar with
  | nil => simp [barsRise]
  | cons e rest ih => simp [barsRise, ih, List.isChain_cons_cons]

/-- The strict rise of the first bars, from the map's last on. -/
theorem barsRise_lastFirstBar_iff (meter : List MeterEntry) {entries : List MeterPair}
    (ranges : meterRangesOk entries = true) :
    barsRise (lastFirstBar meter) entries = true
      ↔ ((meter.map (fun e => e.firstBar) ++ entries.map (fun e => e.firstBar)).drop (meter.length - 1)).IsChain
          (· < ·) := by
  rw [barsRise_iff]
  rcases List.eq_nil_or_concat meter with rfl | ⟨front, e, rfl⟩
  · cases entries with
    | nil => simp [lastFirstBar]
    | cons p rest =>
      have := (not_exists.mp (meterRangesOk_iff.mp ranges) p)
      simp only [List.mem_cons, true_or, true_and, not_not] at this
      simp only [lastFirstBar, List.getLast?_nil, List.map_cons, List.isChain_cons_cons, List.map_nil, List.nil_append,
        List.length_nil, Nat.zero_sub, List.drop_zero]
      exact ⟨fun h => h.2, fun h => ⟨this.1, h⟩⟩
  · simp [lastFirstBar]

theorem loadMeterRequest_used {s : State} (entries : List MeterPair) (h : s.cues ≠ [] ∨ s.tracker.mode ≠ .stopped) :
    s.loadMeterRequest entries = refuse s .refusedState := by
  unfold State.loadMeterRequest
  rw [if_pos (by simpa using h)]

theorem loadMeterRequest_eq {s : State} (entries : List MeterPair)
    (h : ¬ (s.cues ≠ [] ∨ s.tracker.mode ≠ .stopped)) :
    s.loadMeterRequest entries =
      if entries.isEmpty || !meterRangesOk entries || !startsAtOne s.meter entries
          || !barsRise (lastFirstBar s.meter) entries
          || decide (Config.maxMeter < s.meter.length + entries.length) then refuse s .badArgument
      else ({ s with meter := appendMeter s.meter entries }, .ok, .empty) := by
  unfold State.loadMeterRequest
  rw [if_neg (by simpa using h)]

/-- LOAD_METER leaves the old map and puts the list given after it. -/
theorem appendMeter_eq_append (meter : List MeterEntry) (entries : List MeterPair) :
    ∃ more, appendMeter meter entries = meter ++ more
      ∧ more.map (fun e => (e.firstBar, e.beats)) = entries.map (fun e => (e.firstBar, e.beats)) := by
  induction entries generalizing meter with
  | nil => exact ⟨[], by simp [appendMeter], rfl⟩
  | cons p rest ih =>
    obtain ⟨more, joined, pairs⟩ := ih (meter ++ [nextEntry meter p])
    exact ⟨nextEntry meter p :: more, by rw [appendMeter_cons, joined]; simp, by simp [pairs, nextEntry]⟩

/-- R3: an appended entry starts where the one before it ends. -/
theorem appendMeter_neighbours (meter : List MeterEntry) (entries : List MeterPair) {k : Nat} {a b : MeterEntry}
    (new : meter.length ≤ k + 1) (ha : (appendMeter meter entries)[k]? = some a)
    (hb : (appendMeter meter entries)[k + 1]? = some b) :
    b.startGrain = a.startGrain + (b.firstBar - a.firstBar) * a.beats * 192 := by
  induction entries generalizing meter with
  | nil =>
    have := (List.getElem?_eq_some_iff.mp hb).1
    simp only [appendMeter] at this
    omega
  | cons p rest ih =>
    rw [appendMeter_cons] at ha hb
    by_cases first : meter.length = k + 1
    · obtain ⟨more, joined, -⟩ := appendMeter_eq_append (meter ++ [nextEntry meter p]) rest
      rw [joined, List.append_assoc] at ha hb
      rw [List.getElem?_append_left (by omega)] at ha
      rw [List.getElem?_append_right (by omega), first] at hb
      simp only [Nat.sub_self, List.cons_append, List.getElem?_cons_zero, Option.some.injEq] at hb
      have last : meter.getLast? = some a := by rw [List.getLast?_eq_getElem?, first]; exact ha
      rw [← hb]
      simp [nextEntry, nextStart, last, startAfter]
    · exact ih _ (by simp; omega) ha hb

/-- Settles O4. -/
theorem loadMeterAppends : Obligations.LoadMeterAppends := by
  unfold Obligations.LoadMeterAppends
  intro s entries body rest h went refused bars
  have taken : exec (.loadMeter entries) s = .next (answered kLoadMeter (went.loadMeterRequest entries)) :=
    congrArg _ (h.answered (form := formFree) rfl _)
  obtain ⟨more, joined, pairs⟩ := appendMeter_eq_append s.meter entries
  refine ⟨?_, by rw [joined]; simp, by rw [joined]; simpa using pairs,
    fun k a b new ha hb => appendMeter_neighbours s.meter entries new ha hb⟩
  rw [taken]
  by_cases used : s.cues ≠ [] ∨ s.tracker.mode ≠ .stopped
  · rw [if_pos used, loadMeterRequest_used (s := went) entries used, answered_refuse]
  · have meter : went.meter = s.meter := rfl
    have bad : answered kLoadMeter (refuse went .badArgument) = went.withReply kLoadMeter .badArgument .empty :=
      answered_refuse ..
    rw [if_neg used, loadMeterRequest_eq (s := went) entries used, meter]
    by_cases empty : entries = []
    · rw [if_pos empty, if_pos (by simp [empty]), bad]
    rw [if_neg empty]
    by_cases ranges : meterRangesOk entries = true
    case neg => rw [if_pos (not_not.mp (mt meterRangesOk_iff.mpr ranges)), if_pos (by simp [ranges]), bad]
    rw [if_neg (meterRangesOk_iff.mp ranges)]
    by_cases one : startsAtOne s.meter entries = true
    case neg => rw [if_pos (not_not.mp (mt (startsAtOne_iff empty).mpr one)), if_pos (by simp [one]), bad]
    rw [if_neg ((startsAtOne_iff empty).mp one)]
    by_cases rise : barsRise (lastFirstBar s.meter) entries = true
    case neg =>
      rw [if_pos (mt (barsRise_lastFirstBar_iff s.meter ranges).mpr rise), if_pos (by simp [rise]), bad]
    rw [if_neg (not_not.mpr ((barsRise_lastFirstBar_iff s.meter ranges).mp rise))]
    by_cases full : Config.maxMeter < s.meter.length + entries.length
    · rw [if_pos (show 128 < _ from full), if_pos (by simp [full]), bad]
    · rw [if_neg (show ¬ 128 < _ from full), if_neg (by simp [empty, ranges, one, rise, full]),
        answered_taken _ _ _ (.inl rfl)]

end Sys2Proof.Machine
end

section
/-!
Score position and tempo (01): pulses, the expiries, SYNC and SET_TEMPO, and the reported position.
-/

namespace Sys2Proof.Machine

set_option Elab.async false

/-! ### Which pulses reach the tracker (R9, R10) -/

/-- Settles O5. -/
theorem pulsesReachTheTracker : Obligations.PulsesReachTheTracker := by
  unfold Obligations.PulsesReachTheTracker
  intro s
  refine ⟨?_, fun rest h => ?_⟩
  · change Host.Outcome.next s.beatPulse = _
    unfold State.beatPulse State.inReset
    by_cases ignored : s.resetUnit.period ≠ none ∨ s.params.beatSource = .tap
    · rw [if_pos ignored, if_pos (by simpa [Option.isSome_iff_ne_none] using ignored)]
    · rw [if_neg ignored, if_neg (by simpa [Option.isSome_iff_ne_none] using ignored)]
  · exact congrArg _ (h.answered (form := formEmpty) rfl State.tapRequest)

/-! ### The expiries (R7, R8) -/

theorem Tracker.clamped_iff {tr : Tracker} {t : ShowTime} :
    tr.clamped t = true ↔ 192 / tr.ppb * tr.period ≤ (t - tr.tc).toNat * 192 := by
  unfold Tracker.clamped
  exact decide_eq_true_iff

theorem Tracker.lossDue_iff {tr : Tracker} {lossBeats : Nat} {t : ShowTime} :
    tr.lossDue lossBeats t = true ↔ lossBeats * tr.period ≤ (t - tr.tc).toNat := by
  unfold Tracker.lossDue
  exact decide_eq_true_iff

/-- Settles O9. -/
theorem clampAndLossExpire : Obligations.ClampAndLossExpire := by
  unfold Obligations.ClampAndLossExpire
  intro s tr waited held
  constructor
  · exact congrArg _ (if_congr (and_congr_right' Tracker.clamped_iff) rfl rfl)
  · change Host.Outcome.next s.lossExpires = _
    have position : fullPos s.meter (s.tracker.lose.positionAt (endGrain s.meter) s.showClock)
        = fullPos s.meter (some held) := rfl
    refine congrArg _ (if_congr (and_congr_right' Tracker.lossDue_iff) ?_ rfl)
    simp only [State.fullPositionAt, State.positionAt, position]
    rfl

/-! ### SYNC (R17) -/

/-- R15: a PPB that waits takes effect. -/
theorem Tracker.takePpb_eq (tr : Tracker) (counter : Nat) :
    { tr.takePpb with pulseCounter := counter }
      = { tr with ppb := tr.pendingPpb.getD tr.ppb, pendingPpb := none, pulseCounter := counter } := by
  unfold Tracker.takePpb
  cases h : tr.pendingPpb <;> simp [h]

/-- R17: what SYNC to a position in grains leaves of the tracker. -/
theorem Tracker.syncTo_eq (tr : Tracker) (g : Nat) (t : ShowTime) :
    tr.syncTo g t =
      let ppb := tr.pendingPpb.getD tr.ppb
      let set : Tracker := { tr with
        confirmed := g / (192 / ppb) * (192 / ppb), ppb := ppb, pendingPpb := none, pulseCounter := 0 }
      if tr.mode = .free then set else { set with mode := .following, tc := t, lossOpen := false } := by
  unfold Tracker.syncTo
  rw [tr.takePpb_eq 0]
  cases h : tr.mode <;> simp [downTo, stepOf]

/-- Settles O10. -/
theorem syncSetsThePosition : Obligations.SyncSetsThePosition := by
  unfold Obligations.SyncSetsThePosition
  intro s pos body rest h went ppb
  have taken : exec (.sync pos) s = .next (answered kSync (went.syncReply pos)) :=
    congrArg _ (h.answered (form := formFree) rfl _)
  rw [taken]
  refine congrArg _ ?_
  unfold State.syncReply State.syncRequest
  by_cases stopped : s.tracker.mode = .stopped ∨ s.meter = []
  · rw [if_pos stopped, if_pos (show went.tracker.mode = .stopped ∨ went.meter = [] from stopped)]
    rfl
  · rw [if_neg stopped, if_neg (show ¬ (went.tracker.mode = .stopped ∨ went.meter = []) from stopped)]
    have meter : went.meter = s.meter := rfl
    rw [meter]
    cases toGrains s.meter pos with
    | none => rfl
    | some g =>
      have confirmed : (s.tracker.syncTo g s.showClock).confirmed = g / (192 / ppb) * (192 / ppb) := by
        rw [Tracker.syncTo_eq]
        simp only
        split <;> rfl
      change answered kSync ({ went with tracker := s.tracker.syncTo g s.showClock },
        (if (s.tracker.syncTo g s.showClock).confirmed = g then Status.ok else .adjusted),
        .position (s.tracker.syncTo g s.showClock).confirmed) = _
      rw [confirmed, answered_taken _ _ _ (by split <;> simp), Tracker.syncTo_eq]
      rfl

/-! ### Pulses (R11, R12, R15, R16) -/

/-- R16: the pulse counter of a taken pulse, with its POSITION notice. -/
theorem State.countPulse_eq (s : State) (moved : Tracker) :
    s.countPulse moved =
      if moved.confirmed % 192 = 0 ∧ s.params.positionReport ≠ 0 then
        if s.params.positionReport ≤ moved.pulseCounter + 1 then
          ({ s with tracker := { moved with pulseCounter := 0 } }).post
            (.position (fullPos s.meter (some moved.confirmed)) (tempoOf moved.period) moved.mode)
        else { s with tracker := { moved with pulseCounter := moved.pulseCounter + 1 } }
      else { s with tracker := moved } := by
  unfold State.countPulse Tracker.count
  split
  · split <;> rfl
  · rfl

/-- A tracker that runs has a position. -/
theorem Tracker.positionAt_eq_some_getD {tr : Tracker} (h : tr.mode ≠ .stopped) (last : Option Nat) (t : ShowTime) :
    tr.positionAt last t = some ((tr.positionAt last t).getD 0) := by
  unfold Tracker.positionAt
  split
  case h_1 stopped => exact absurd stopped h
  all_goals rfl

/-- R12, R15: the confirmed position that a pulse taken with advance moves to. -/
def nextConfirmed (tr : Tracker) (last : Option Nat) (t : ShowTime) : Nat :=
  limitTo last (match tr.pendingPpb with
    | none => tr.confirmed + 192 / tr.ppb
    | some q => (tr.positionAt last t).getD 0 / (192 / q) * (192 / q) + 192 / q)

theorem Tracker.advance_eq {tr : Tracker} (h : tr.mode ≠ .stopped) (last : Option Nat) (t : ShowTime) :
    tr.advance last t =
      { mode := .following, confirmed := nextConfirmed tr last t, tc := t, period := tr.period
        ppb := tr.pendingPpb.getD tr.ppb, pendingPpb := none
        pulseCounter := if tr.pendingPpb.isSome then 0 else tr.pulseCounter, lossOpen := false } := by
  unfold Tracker.advance nextConfirmed
  rw [Tracker.positionAt_eq_some_getD h]
  cases hp : tr.pendingPpb <;> simp [stepOf, downTo]

theorem Tracker.advanced_of_classify {tr : Tracker} {t : ShowTime} (h : tr.classify t ≠ .accepted)
    (last : Option Nat) (gain : Nat) : tr.advanced last gain t = tr.advance last t := by
  unfold Tracker.advanced
  cases outcome : tr.classify t with
  | accepted => exact absurd outcome h
  | _ => rfl

theorem Tracker.advanced_of_accepted {tr : Tracker} {t : ShowTime} (h : tr.classify t = .accepted)
    (last : Option Nat) (gain : Nat) :
    tr.advanced last gain t = { tr.advance last t with period := newPeriod tr.period gain (tr.scaled t) } := by
  simp only [Tracker.advanced, h]

/-! A pulse by its outcome (R11). -/

theorem State.pulse_ignored {s : State} (h : s.tracker.classify s.showClock = .ignored) :
    s.pulse = (s, .ignored) := by simp only [State.pulse, h]

theorem State.pulse_stray {s : State} (h : s.tracker.classify s.showClock = .stray) :
    s.pulse = (s, .stray) := by simp only [State.pulse, h]

theorem State.pulse_marked {s : State} (h : s.tracker.classify s.showClock = .marked) :
    s.pulse = ({ s with tracker := { s.tracker with mode := .following, tc := s.showClock } }, .marked) := by
  simp only [State.pulse, h]

theorem State.pulse_accepted {s : State} (h : s.tracker.classify s.showClock = .accepted) :
    s.pulse =
      (s.countPulse (s.tracker.advanced (endGrain s.meter) s.params.followGain s.showClock), .accepted) := by
  simp only [State.pulse, h]

theorem State.pulse_late {s : State} (h : s.tracker.classify s.showClock = .late) :
    s.pulse = (s.countPulse (s.tracker.advanced (endGrain s.meter) s.params.followGain s.showClock), .late) := by
  simp only [State.pulse, h]

theorem State.pulse_regained {s : State} (h : s.tracker.classify s.showClock = .regained) :
    s.pulse =
      let moved := s.tracker.advanced (endGrain s.meter) s.params.followGain s.showClock
      ((s.post (.beatRegained (fullPos s.meter (some moved.confirmed)) moved.tempo)).countPulse moved, .regained) := by
  simp only [State.pulse, h]

/-- R11: a pulse in FOLLOWING and WAITING, by its scaled interval. -/
theorem Tracker.classify_going {tr : Tracker} {t : ShowTime} (going : tr.mode = .following ∨ tr.mode = .waiting) :
    tr.classify t = if 2 * tr.scaled t < tr.period then .stray
      else if tr.scaled t ≤ 2 * tr.period then .accepted else .late := by
  unfold Tracker.classify
  obtain h | h := going <;> simp only [h]

theorem not_stopped_of_going {tr : Tracker} (going : tr.mode = .following ∨ tr.mode = .waiting) :
    tr.mode ≠ .stopped := by
  obtain h | h := going <;> simp [h]

/-- Settles O6. -/
theorem pulseOutcomes : Obligations.PulseOutcomes := by
  unfold Obligations.PulseOutcomes
  intro s period tr period scaled going reported confirmed advanced counted
  have isScaled : tr.scaled s.showClock = scaled := tr.scaled_eq s.showClock
  have isConfirmed : nextConfirmed tr (endGrain s.meter) s.showClock = confirmed := by
    unfold nextConfirmed limitTo
    rfl
  have isAdvanced : tr.mode ≠ .stopped → tr.advance (endGrain s.meter) s.showClock = advanced := fun h => by
    rw [Tracker.advance_eq h, isConfirmed]
  have isCounted : ∀ (u : State) (moved : Tracker), u.params = s.params → u.meter = s.meter →
      u.countPulse moved = counted u moved := fun u moved hp hm => by
    simp only [counted]
    rw [← hp, ← hm, State.countPulse_eq]
  refine ⟨fun h => ?_, fun h => ?_, fun h low => ?_, fun h low high => ?_, fun h high => ?_, fun h => ?_⟩
  · have outcome : tr.classify s.showClock = .ignored := by simp only [Tracker.classify, h]
    exact State.pulse_ignored outcome
  · have outcome : tr.classify s.showClock = .marked := by simp only [Tracker.classify, h]
    exact State.pulse_marked outcome
  · have outcome : tr.classify s.showClock = .stray := by rw [Tracker.classify_going h, isScaled, if_pos low]
    exact State.pulse_stray outcome
  · have outcome : tr.classify s.showClock = .accepted := by
      rw [Tracker.classify_going h, isScaled, if_neg (by omega), if_pos high]
    have moved := Tracker.advanced_of_accepted outcome (endGrain s.meter) s.params.followGain
    rw [isScaled, isAdvanced (not_stopped_of_going h)] at moved
    rw [State.pulse_accepted outcome, ← isCounted _ _ rfl rfl, moved]
  · have outcome : tr.classify s.showClock = .late := by
      rw [Tracker.classify_going h, isScaled, if_neg (by omega), if_neg (by omega)]
    have moved := Tracker.advanced_of_classify (by simp [outcome] : tr.classify s.showClock ≠ .accepted)
      (endGrain s.meter) s.params.followGain
    rw [isAdvanced (not_stopped_of_going h)] at moved
    rw [State.pulse_late outcome, ← isCounted _ _ rfl rfl, moved]
  · have outcome : tr.classify s.showClock = .regained := by simp only [Tracker.classify, h]
    have moved := Tracker.advanced_of_classify (by simp [outcome] : tr.classify s.showClock ≠ .accepted)
      (endGrain s.meter) s.params.followGain
    rw [isAdvanced (by simp [h])] at moved
    rw [State.pulse_regained outcome, ← isCounted _ _ (by simp) (by simp), moved]
    rfl

/-! ### SET_TEMPO (R18) -/

theorem limitTempo_idem (v : Nat) : limitTempo (limitTempo v) = limitTempo v := by
  unfold limitTempo
  omega

theorem periodOf_limitTempo (v : Nat) : periodOf (limitTempo v) = periodOf v := by
  unfold periodOf
  rw [limitTempo_idem]

/-! R18: the extrapolation SET_TEMPO keeps. -/

theorem Tracker.extrapolation_clamped {tr : Tracker} {t : ShowTime} (mode : tr.mode = .following)
    (clamp : tr.clamped t = true) : tr.extrapolation t = stepOf tr.ppb := by
  simp only [Tracker.extrapolation, Tracker.modeAt, mode, clamp, if_true]

theorem Tracker.extrapolation_running {tr : Tracker} {t : ShowTime} (mode : tr.mode = .following)
    (run : ¬ tr.clamped t = true) :
    tr.extrapolation t = min (elapsed t tr.tc * 192 / tr.period) (stepOf tr.ppb - 1) := by
  simp only [Tracker.extrapolation, Tracker.modeAt, mode, if_neg run]

theorem Tracker.extrapolation_waiting {tr : Tracker} {t : ShowTime} (mode : tr.mode = .waiting) :
    tr.extrapolation t = stepOf tr.ppb := by
  simp only [Tracker.extrapolation, Tracker.modeAt, mode]

theorem Tracker.extrapolation_eq {tr : Tracker} {t : ShowTime} (going : tr.mode = .following ∨ tr.mode = .waiting) :
    tr.extrapolation t =
      if tr.mode = .waiting ∨ 192 / tr.ppb * tr.period ≤ (t - tr.tc).toNat * 192 then 192 / tr.ppb
      else min ((t - tr.tc).toNat * 192 / tr.period) (192 / tr.ppb - 1) := by
  obtain mode | mode := going
  · by_cases clamp : tr.clamped t = true
    · rw [Tracker.extrapolation_clamped mode clamp, if_pos (.inr (Tracker.clamped_iff.mp clamp)), stepOf]
    · rw [Tracker.extrapolation_running mode clamp, if_neg, stepOf, elapsed]
      rintro (waiting | passed)
      · simp [mode] at waiting
      · exact clamp (Tracker.clamped_iff.mpr passed)
  · rw [Tracker.extrapolation_waiting mode, if_pos (.inl mode), stepOf]

theorem Tracker.extrapolation_le {tr : Tracker} (t : ShowTime) : tr.extrapolation t ≤ stepOf tr.ppb := by
  unfold Tracker.extrapolation
  split <;> omega

theorem stepOf_range {ppb : Nat} (h : ppb ∈ [1, 2, 3, 4, 6, 8]) : 24 ≤ stepOf ppb ∧ stepOf ppb ≤ 192 := by
  simp only [List.mem_cons, List.not_mem_nil, or_false] at h
  rcases h with rfl | rfl | rfl | rfl | rfl | rfl <;> decide

/-- The time since the anchor that SET_TEMPO sets back by (R18). -/
theorem elapsed_sub (t : ShowTime) {n : Nat} (h : n < 4294967296) : elapsed t (t - BitVec.ofNat 32 n) = n := by
  unfold elapsed
  rw [show t - (t - BitVec.ofNat 32 n) = BitVec.ofNat 32 n by bv_omega]
  simp [Nat.mod_eq_of_lt h]

/-- A time set back by `e` grains, rounded up, reads as `e` grains. -/
theorem ceil_mul_div {e p : Nat} (h : 192 ≤ p) : (e * p + 191) / 192 * 192 / p = e := by
  refine Nat.div_eq_of_lt_le ?_ ?_
  · omega
  · rw [Nat.succ_mul]
    omega

theorem ceil_lt {e p : Nat} (he : e ≤ 192) (hp : p ≤ 3000000) : (e * p + 191) / 192 < 4294967296 := by
  have := Nat.mul_le_mul he hp
  omega

/-- R18: in FOLLOWING and WAITING SET_TEMPO reads on from where the position stands. -/
theorem Tracker.setTempo_going {tr : Tracker} (ok : TrackerOk tr) (going : tr.mode = .following ∨ tr.mode = .waiting)
    (v : Nat) (t : ShowTime) :
    elapsed t (tr.setTempo v t).tc * 192 / (tr.setTempo v t).period = tr.extrapolation t := by
  have set : tr.setTempo v t = { tr with
      period := periodOf v, tc := t - BitVec.ofNat 32 ((tr.extrapolation t * periodOf v + 191) / 192) } := by
    unfold Tracker.setTempo
    obtain h | h := going <;> simp [h, ceilDiv]
  have step := stepOf_range ok.ppb
  have period := periodOf_range v
  have small : tr.extrapolation t ≤ 192 := le_trans (tr.extrapolation_le t) step.2
  rw [set, elapsed_sub _ (ceil_lt small period.2)]
  exact ceil_mul_div (by omega)

/-- Whether the clamp time has passed, by the grains read past C. -/
theorem Tracker.clamped_iff_le {tr : Tracker} (h : 0 < tr.period) {t : ShowTime} :
    tr.clamped t = true ↔ stepOf tr.ppb ≤ elapsed t tr.tc * 192 / tr.period := by
  unfold Tracker.clamped
  rw [decide_eq_true_eq, Nat.le_div_iff_mul_le h]

theorem Tracker.setTempo_mode (tr : Tracker) (v : Nat) (t : ShowTime) : (tr.setTempo v t).mode = tr.mode := by
  unfold Tracker.setTempo
  split <;> rfl

theorem Tracker.setTempo_ppb (tr : Tracker) (v : Nat) (t : ShowTime) : (tr.setTempo v t).ppb = tr.ppb := by
  unfold Tracker.setTempo
  split <;> rfl

theorem Tracker.setTempo_confirmed (tr : Tracker) (v : Nat) (t : ShowTime) :
    (tr.setTempo v t).confirmed = tr.confirmed := by
  unfold Tracker.setTempo
  split <;> rfl

/-- SET_TEMPO in FOLLOWING: the clamp is as it was. -/
theorem Tracker.setTempo_clamped {tr : Tracker} (ok : TrackerOk tr) (mode : tr.mode = .following) (v : Nat)
    (t : ShowTime) : (tr.setTempo v t).clamped t = tr.clamped t := by
  have step := stepOf_range ok.ppb
  have was : 0 < tr.period := by have := ok.period; omega
  have now : 0 < (tr.setTempo v t).period := by have := (ok.setTempo v t).period; omega
  rw [Bool.eq_iff_iff, Tracker.clamped_iff_le now, Tracker.setTempo_going ok (.inl mode), Tracker.setTempo_ppb]
  by_cases clamp : tr.clamped t = true
  · rw [Tracker.extrapolation_clamped mode clamp]
    exact iff_of_true le_rfl clamp
  · rw [Tracker.extrapolation_running mode clamp]
    exact iff_of_false (by omega) clamp

/-- R18: SET_TEMPO does not move the reported position. -/
theorem Tracker.positionAt_setTempo {tr : Tracker} (ok : TrackerOk tr) (last : Option Nat) (v : Nat) (t : ShowTime) :
    (tr.setTempo v t).positionAt last t = tr.positionAt last t := by
  unfold Tracker.positionAt
  rw [Tracker.setTempo_mode, Tracker.setTempo_ppb, Tracker.setTempo_confirmed]
  cases mode : tr.mode with
  | following =>
    have step := stepOf_range ok.ppb
    have was : 0 < tr.period := by have := ok.period; omega
    have grains : min (tr.extrapolation t) (stepOf tr.ppb - 1)
        = min (elapsed t tr.tc * 192 / tr.period) (stepOf tr.ppb - 1) := by
      by_cases clamp : tr.clamped t = true
      · rw [Tracker.extrapolation_clamped mode clamp]
        have := (Tracker.clamped_iff_le was).mp clamp
        omega
      · rw [Tracker.extrapolation_running mode clamp, min_assoc, min_self]
    simp only [Tracker.setTempo_going ok (.inl mode), grains]
  | _ => rfl

theorem Tracker.modeAt_setTempo {tr : Tracker} (ok : TrackerOk tr) (v : Nat) (t : ShowTime) :
    (tr.setTempo v t).modeAt t = tr.modeAt t := by
  unfold Tracker.modeAt
  rw [Tracker.setTempo_mode]
  cases mode : tr.mode with
  | following => simp only [Tracker.setTempo_clamped ok mode]
  | _ => rfl

/-- Settles O11. -/
theorem setTempoKeepsThePosition : Obligations.SetTempoKeepsThePosition := by
  unfold Obligations.SetTempoKeepsThePosition
  intro s v body rest h went tr used period step waited e tracker
  have isTracker : tr.setTempo used s.showClock = tracker := by
    have isPeriod : periodOf used = period := periodOf_limitTempo v
    by_cases going : tr.mode = .following ∨ tr.mode = .waiting
    · have isE : tr.extrapolation s.showClock = e := Tracker.extrapolation_eq going
      have hT : tracker = { tr with
        period := period, tc := s.showClock - BitVec.ofNat 32 ((e * period + 191) / 192) } := if_pos going
      rw [hT, ← isE, ← isPeriod]
      unfold Tracker.setTempo
      obtain mode | mode := going <;> simp only [mode, ceilDiv] <;> rfl
    · have hT : tracker = { tr with period := period } := if_neg going
      rw [hT, ← isPeriod]
      unfold Tracker.setTempo
      rw [not_or] at going
      cases mode : tr.mode with
      | following => exact absurd mode going.1
      | waiting => exact absurd mode going.2
      | _ => rfl
  rw [← isTracker]
  refine ⟨?_, fun ok => ⟨Tracker.positionAt_setTempo ok _ _ _, Tracker.modeAt_setTempo ok _ _⟩⟩
  have taken : exec (.setTempo v) s = .next (answered kSetTempo (went.setTempoRequest v)) :=
    congrArg _ (h.answered (form := formFree) rfl _)
  rw [taken]
  exact congrArg _ (answered_taken _ _ _ (by split <;> simp))

end Sys2Proof.Machine
end

section
/-!
The reported position never falls back (R6).
-/

namespace Sys2Proof.Machine

set_option Elab.async false

/-- The reported position of the second state, read at its time, is not before that of the first. -/
def Forward (s t : State) : Prop :=
  ∀ p, s.positionAt s.showClock = some p → ∃ q, t.positionAt t.showClock = some q ∧ p ≤ q

theorem Forward.refl (s : State) : Forward s s := fun p hp => ⟨p, hp, le_rfl⟩

/-- A state that reads the same position. -/
theorem Forward.of_eq {s t : State} (h : t.positionAt t.showClock = s.positionAt s.showClock) : Forward s t :=
  fun p hp => ⟨p, h.trans hp, le_rfl⟩

theorem limitTo_mono (last : Option Nat) {g h : Nat} (le : g ≤ h) : limitTo last g ≤ limitTo last h := by
  cases last with
  | none => exact le
  | some m => exact min_le_min_right m le

/-- What a reading never passes: the confirmed position and the whole step less one. -/
theorem Tracker.positionAt_le {tr : Tracker} (ok : TrackerOk tr) {last : Option Nat} {t : ShowTime} {p : Nat}
    (h : tr.positionAt last t = some p) : p ≤ limitTo last (tr.confirmed + stepOf tr.ppb - 1) ∨ tr.mode = .free := by
  have step := stepOf_range ok.ppb
  unfold Tracker.positionAt at h
  split at h
  · cases h
  · exact .inr ‹_›
  all_goals
    cases h
    exact .inl (limitTo_mono last (by omega))

/-- A tracker that follows from `t` on stands at its confirmed position there. -/
theorem positionAt_fresh {tr : Tracker} {t : ShowTime} (mode : tr.mode = .following) (tc : tr.tc = t)
    (last : Option Nat) : tr.positionAt last t = some (limitTo last tr.confirmed) := by
  simp [Tracker.positionAt, mode, tc, elapsed]

theorem limitTo_limitTo (last : Option Nat) (g : Nat) : limitTo last (limitTo last g) = limitTo last g := by
  cases last <;> simp [limitTo]

theorem le_downTo_add {step g : Nat} (h : 0 < step) : g ≤ downTo step g + step := by
  have := Nat.div_add_mod g step
  have := Nat.mod_lt g h
  rw [downTo, Nat.mul_comm]
  omega

/-- R12, R15: a pulse taken with advance moves on from the reported position. -/
theorem Tracker.le_nextConfirmed {tr : Tracker} (ok : TrackerOk tr) (run : tr.mode ≠ .free) {last : Option Nat}
    {t : ShowTime} {p : Nat} (h : tr.positionAt last t = some p) : p ≤ nextConfirmed tr last t := by
  have limited : p = limitTo last p := by
    unfold Tracker.positionAt at h
    split at h
    · cases h
    all_goals
      cases h
      exact (limitTo_limitTo last _).symm
  unfold nextConfirmed
  cases hp : tr.pendingPpb with
  | none =>
    have := (Tracker.positionAt_le ok h).resolve_right run
    exact le_trans this (limitTo_mono last (Nat.sub_le _ 1))
  | some q =>
    have step := stepOf_range (ok.pendingPpb q hp)
    rw [limited, h]
    exact limitTo_mono last (le_downTo_add (step := stepOf q) (by omega))

theorem State.countPulse_tracker (s : State) (moved : Tracker) :
    (s.countPulse moved).tracker = (moved.count s.params.positionReport).1 := by
  unfold State.countPulse
  simp only
  split <;> simp

/-- The counter's part of a pulse moves neither the position nor its time. -/
theorem Tracker.positionAt_count (tr : Tracker) (report : Nat) (last : Option Nat) (t : ShowTime) :
    (tr.count report).1.positionAt last t = tr.positionAt last t := by
  unfold Tracker.count
  split
  · split <;> rfl
  · rfl

theorem Tracker.advanced_stands {tr : Tracker} (run : tr.mode ≠ .stopped) (last : Option Nat) (gain : Nat)
    (t : ShowTime) :
    (tr.advanced last gain t).positionAt last t = some (limitTo last (nextConfirmed tr last t)) := by
  have stands : (tr.advance last t).mode = .following ∧ (tr.advance last t).tc = t
      ∧ (tr.advance last t).confirmed = nextConfirmed tr last t := by
    rw [Tracker.advance_eq run]
    exact ⟨rfl, rfl, rfl⟩
  obtain ⟨mode, tc, confirmed⟩ := stands
  rw [← confirmed]
  by_cases outcome : tr.classify t = .accepted
  · rw [Tracker.advanced_of_accepted outcome, positionAt_fresh (by exact mode) (by exact tc)]
  · rw [Tracker.advanced_of_classify outcome, positionAt_fresh mode tc]

/-- A pulse taken with advance, from any state that reads as `s`. -/
theorem forward_countPulse {s u : State} (ok : TrackerOk s.tracker) (run : s.tracker.mode ≠ .stopped)
    (bound : s.tracker.mode ≠ .free) (meter : u.meter = s.meter) (clock : u.showClock = s.showClock) (gain : Nat) :
    Forward s (u.countPulse (s.tracker.advanced (endGrain s.meter) gain s.showClock)) := by
  intro p hp
  have meter' : ∀ m, (u.countPulse m).meter = s.meter := fun m => by
    rw [State.countPulse_eq]
    split
    · split <;> simp [meter]
    · exact meter
  have clock' : ∀ m, (u.countPulse m).showClock = s.showClock := fun m => by
    rw [State.countPulse_eq]
    split
    · split <;> simp [clock]
    · exact clock
  refine ⟨limitTo (endGrain s.meter) (nextConfirmed s.tracker (endGrain s.meter) s.showClock), ?_, ?_⟩
  · rw [State.positionAt, meter', clock', State.countPulse_tracker, Tracker.positionAt_count,
      Tracker.advanced_stands run]
  · rw [nextConfirmed, limitTo_limitTo]
    exact Tracker.le_nextConfirmed ok bound hp

/-- The states in which a pulse has each outcome (R11). -/
theorem Tracker.mode_of_classify (tr : Tracker) (t : ShowTime) :
    match tr.classify t with
    | .ignored => tr.mode = .stopped
    | .marked => tr.mode = .free
    | .regained => tr.mode = .lost
    | .stray | .accepted | .late => tr.mode = .following ∨ tr.mode = .waiting := by
  cases mode : tr.mode with
  | following | waiting =>
    rw [Tracker.classify_going (by simp [mode])]
    by_cases low : 2 * tr.scaled t < tr.period
    · simp [low]
    · by_cases high : tr.scaled t ≤ 2 * tr.period <;> simp [low, high]
  | _ => simp [Tracker.classify, mode]

theorem forward_pulse {s : State} (ok : TrackerOk s.tracker) : Forward s s.pulse.1 := by
  have mode := s.tracker.mode_of_classify s.showClock
  cases outcome : s.tracker.classify s.showClock with
  | ignored =>
    rw [State.pulse_ignored outcome]
    exact .refl s
  | stray =>
    rw [State.pulse_stray outcome]
    exact .refl s
  | marked =>
    rw [outcome] at mode
    rw [State.pulse_marked outcome]
    refine .of_eq ?_
    rw [State.positionAt, positionAt_fresh (by rfl) (by rfl)]
    simp only [State.positionAt, Tracker.positionAt, mode]
  | accepted =>
    rw [outcome] at mode
    rw [State.pulse_accepted outcome]
    exact forward_countPulse ok (not_stopped_of_going mode) (by rcases mode with h | h <;> simp [h]) rfl rfl _
  | late =>
    rw [outcome] at mode
    rw [State.pulse_late outcome]
    exact forward_countPulse ok (not_stopped_of_going mode) (by rcases mode with h | h <;> simp [h]) rfl rfl _
  | regained =>
    rw [outcome] at mode
    rw [State.pulse_regained outcome]
    exact forward_countPulse ok (by simp [mode]) (by simp [mode]) (by simp) (by simp) _

/-! ### The commands -/

theorem forward_clampExpires {s : State} (ok : TrackerOk s.tracker) : Forward s s.clampExpires := by
  unfold State.clampExpires
  split
  case isTrue due =>
    intro p hp
    exact ⟨_, rfl, (Tracker.positionAt_le ok hp).resolve_right (by simp [due.1])⟩
  case isFalse => exact .refl s

theorem forward_lossExpires {s : State} (ok : TrackerOk s.tracker) : Forward s s.lossExpires := by
  unfold State.lossExpires
  split
  case isTrue due =>
    intro p hp
    have going : s.tracker.mode ≠ .free := by rcases due.1 with h | h <;> simp [h]
    refine ⟨limitTo (endGrain s.meter) (s.tracker.confirmed + stepOf s.tracker.ppb - 1), ?_,
      (Tracker.positionAt_le ok hp).resolve_right going⟩
    simp [State.positionAt, Tracker.positionAt, Tracker.lose]
  case isFalse => exact .refl s

/-- A request of which the handling does not let the position fall back. -/
theorem forward_take {s : State} {kind : Byte} {form : List Byte → BodyForm}
    {handle : State → State × Status × ReplyBody} (h : Forward s.dropRequest (handle s.dropRequest).1) :
    Forward s (s.take kind form handle) := by
  unfold State.take
  split
  · exact .refl s
  · split
    · split
      · exact .refl s
      · exact .of_eq rfl
      · exact h
    · exact .refl s

theorem forward_tap {s : State} (ok : TrackerOk s.tracker) : Forward s s.tapRequest.1 := by
  unfold State.tapRequest
  simp only
  split
  · exact .refl s
  · exact forward_pulse ok

theorem forward_setTempo {s : State} (ok : TrackerOk s.tracker) (v : Nat) : Forward s (s.setTempoRequest v).1 :=
  .of_eq (Tracker.positionAt_setTempo ok _ _ _)

/-- The passing of time: the interval since the last pulse is one µs longer. -/
theorem forward_tick {s : State} (short : (s.showClock - s.tracker.tc).toNat < 2 ^ 31) : Forward s s.tick := by
  have longer : elapsed (s.showClock + 1) s.tracker.tc = elapsed s.showClock s.tracker.tc + 1 := by
    unfold elapsed
    bv_omega
  intro p hp
  unfold State.positionAt Tracker.positionAt at hp ⊢
  simp only [State.tick_tracker, State.tick_meter, State.tick_showClock, longer]
  cases mode : s.tracker.mode with
  | following =>
    simp only [mode, Option.some.injEq] at hp ⊢
    refine ⟨_, rfl, ?_⟩
    rw [← hp]
    refine limitTo_mono _ (Nat.add_le_add_left (min_le_min_right _ ?_) _)
    exact Nat.div_le_div_right (Nat.mul_le_mul_right 192 (Nat.le_succ _))
  | _ =>
    simp only [mode] at hp
    exact ⟨p, hp, le_rfl⟩

/-- R6: in FOLLOWING and WAITING the position stays below the confirmed one and a step. -/
theorem Tracker.positionAt_lt {tr : Tracker} (ok : TrackerOk tr) (going : tr.mode = .following ∨ tr.mode = .waiting)
    (last : Option Nat) (t : ShowTime) :
    ∃ p, tr.positionAt last t = some p ∧ p < tr.confirmed + 192 / tr.ppb := by
  have step := stepOf_range ok.ppb
  have some := Tracker.positionAt_eq_some_getD (not_stopped_of_going going) last t
  refine ⟨_, some, ?_⟩
  have le := (Tracker.positionAt_le ok some).resolve_right (by rcases going with h | h <;> simp [h])
  have limited : ∀ g, limitTo last g ≤ g := fun g => by
    cases last with
    | none => exact le_rfl
    | some m => exact min_le_left _ _
  have := le_trans le (limited _)
  simp only [stepOf] at step this
  omega

/-- Settles O8. -/
theorem positionNeverFallsBack : Obligations.PositionNeverFallsBack := by
  unfold Obligations.PositionNeverFallsBack
  refine ⟨fun tr last t ok going => Tracker.positionAt_lt ok going last t, fun s t c ok hc step => ?_,
    fun s t _ short empty step => ?_⟩
  · have next : ∀ {u : State}, Forward s u → Host.Outcome.next (φ := Fault) (ρ := Refusal) u = .next t → Forward s t :=
      fun hu e => by
        cases e
        exact hu
    rcases hc with rfl | rfl | rfl | rfl | ⟨v, rfl⟩
    · refine next ?_ step
      unfold State.beatPulse
      split
      · exact .refl s
      · exact forward_pulse ok
    · exact next (forward_take (forward_tap (s := s.dropRequest) ok)) step
    · exact next (forward_clampExpires ok) step
    · exact next (forward_lossExpires ok) step
    · exact next (forward_take (forward_setTempo (s := s.dropRequest) ok v)) step
  · rw [stepRunsTheFrontCommand.2 s empty] at step
    cases step
    exact forward_tick short

end Sys2Proof.Machine
end

section
/-!
The cue list (02): LOAD_CUE, DELETE_CUE, READ_CUE and CLEAR_ACT.
-/

namespace Sys2Proof.Machine

set_option Elab.async false

/-! ### The checks of a cue record (R23, R24, R29) -/

theorem cueNumberOk_iff {n : Nat} : cueNumberOk n = true ↔ 1 ≤ n ∧ n ≤ 65000 := by
  unfold cueNumberOk
  rw [Bool.and_eq_true, decide_eq_true_iff, decide_eq_true_iff]
  rfl

theorem bbgInRange_iff {p : Bbg} : bbgInRange p = true ↔ BbgInRange p := by
  unfold bbgInRange
  simp only [Bool.and_eq_true, decide_eq_true_eq, and_assoc]
  rfl

theorem optAtMost_iff {bound : Nat} {o : Option Nat} : optAtMost bound o = true ↔ ∀ n ∈ o, n ≤ bound := by
  cases o <;> simp [optAtMost]

theorem cueRangesOk_iff {c : CueRecord} : cueRangesOk c = true ↔ CueInRange c := by
  have anchor : (match c.anchor with | none => true | some p => bbgInRange p) = true
      ↔ ∀ p ∈ c.anchor, BbgInRange p := by
    cases c.anchor <;> simp [bbgInRange_iff]
  have pages : (c.pages.all fun r => decide (r.lane ≤ 3) && decide (1 ≤ r.page) && decide (r.page ≤ Config.maxPages))
      = true ↔ ∀ r ∈ c.pages, r.lane ≤ 3 ∧ 1 ≤ r.page ∧ r.page ≤ 4095 := by
    simp only [List.all_eq_true, Bool.and_eq_true, decide_eq_true_eq, and_assoc]
    rfl
  unfold cueRangesOk
  simp only [Bool.and_eq_true, pages, cueNumberOk_iff, optAtMost_iff, decide_eq_true_eq]
  constructor
  · rintro ⟨⟨⟨⟨⟨⟨⟨number, place⟩, slot⟩, delay⟩, lead⟩, dwell⟩, few⟩, pages⟩
    exact ⟨number, anchor.mp place, slot, delay, lead, dwell, few, pages⟩
  · rintro ⟨number, place, slot, delay, lead, dwell, few, pages⟩
    exact ⟨⟨⟨⟨⟨⟨⟨number, anchor.mpr place⟩, slot⟩, delay⟩, lead⟩, dwell⟩, few⟩, pages⟩

theorem cueFieldsOk_iff {c : CueRecord} : cueFieldsOk c = true ↔ CueFieldsAgree c := by
  unfold cueFieldsOk CueFieldsAgree
  cases c.kind <;> simp [Option.isSome_iff_ne_none, and_assoc]

theorem lanesDistinct_iff {c : CueRecord} : lanesDistinct c = true ↔ (c.pages.map (fun r => r.lane)).Nodup :=
  decide_eq_true_iff

/-! ### Pages in lane order (R24) -/

theorem insertRef_perm (r : PageRef) (l : List PageRef) : (insertRef r l).Perm (r :: l) := by
  induction l with
  | nil => exact .refl _
  | cons q rest ih =>
    unfold insertRef
    split
    · exact .refl _
    · exact (ih.cons q).trans (.swap r q rest)

theorem insertRef_sorted (r : PageRef) {l : List PageRef} (h : l.Pairwise (fun a b => a.lane ≤ b.lane)) :
    (insertRef r l).Pairwise (fun a b => a.lane ≤ b.lane) := by
  induction l with
  | nil => exact List.pairwise_singleton _ _
  | cons q rest ih =>
    obtain ⟨first, later⟩ := List.pairwise_cons.mp h
    unfold insertRef
    split
    case isTrue le =>
      refine List.pairwise_cons.mpr ⟨fun b hb => ?_, h⟩
      rcases List.mem_cons.mp hb with rfl | hb
      · exact le
      · exact le_trans le (first b hb)
    case isFalse gt =>
      refine List.pairwise_cons.mpr ⟨fun b hb => ?_, ih later⟩
      rcases List.mem_cons.mp ((insertRef_perm r rest).mem_iff.mp hb) with rfl | hb
      · omega
      · exact first b hb

theorem sortRefs_perm (l : List PageRef) : (sortRefs l).Perm l := by
  induction l with
  | nil => exact .refl _
  | cons r rest ih => exact (insertRef_perm r _).trans (ih.cons r)

theorem sortRefs_sorted (l : List PageRef) : (sortRefs l).Pairwise (fun a b => a.lane ≤ b.lane) := by
  induction l with
  | nil => exact .nil
  | cons r rest ih => exact insertRef_sorted r ih

theorem find?_lane_of_mem {l : List PageRef} (distinct : (l.map (fun r => r.lane)).Nodup) {r : PageRef} (hr : r ∈ l) :
    l.find? (fun q => q.lane == r.lane) = some r := by
  induction l with
  | nil => cases hr
  | cons q rest ih =>
    obtain ⟨new, later⟩ := List.nodup_cons.mp distinct
    rcases List.mem_cons.mp hr with rfl | hr
    · simp
    · have other : ¬ q.lane = r.lane := fun same => new (List.mem_map.mpr ⟨r, hr, same.symm⟩)
      rw [List.find?_cons_of_neg (by simpa using other)]
      exact ih later hr

/-- R24: the pages of a record in lane order are those of the lanes 0 to 3. -/
theorem sortRefs_eq {l : List PageRef} (lanes : ∀ r ∈ l, r.lane ≤ 3) (distinct : (l.map (fun r => r.lane)).Nodup) :
    sortRefs l = [0, 1, 2, 3].filterMap (fun lane => l.find? (fun r => r.lane == lane)) := by
  have found : ∀ {lane : Nat} {r : PageRef}, l.find? (fun r => r.lane == lane) = some r → r ∈ l ∧ r.lane = lane :=
    fun h => ⟨List.mem_of_find?_eq_some h, by simpa using List.find?_some h⟩
  have byLane : ([0, 1, 2, 3].filterMap (fun lane => l.find? (fun r => r.lane == lane))).Pairwise
      (fun a b => a.lane < b.lane) := by
    refine List.pairwise_filterMap.mpr (List.Pairwise.imp ?_ (by decide : [0, 1, 2, 3].Pairwise (· < ·)))
    intro i j less a ha b hb
    rw [(found ha).2, (found hb).2]
    exact less
  have sorted : (sortRefs l).Pairwise (fun a b => a.lane < b.lane) := by
    have lanesNodup : ((sortRefs l).map (fun r => r.lane)).Nodup :=
      ((sortRefs_perm l).map (fun r => r.lane)).nodup_iff.mpr distinct
    refine ((sortRefs_sorted l).and (List.pairwise_map.mp lanesNodup)).imp ?_
    rintro a b ⟨le, ne⟩
    exact lt_of_le_of_ne le ne
  have nodup : ∀ {m : List PageRef}, m.Pairwise (fun a b => a.lane < b.lane) → m.Nodup := fun h =>
    h.imp fun {a b} less same => by simp [same] at less
  refine List.Perm.eq_of_pairwise (le := fun a b => a.lane < b.lane) (fun a b _ _ less more => by omega) sorted byLane ?_
  rw [List.perm_ext_iff_of_nodup (nodup sorted) (nodup byLane)]
  intro r
  rw [(sortRefs_perm l).mem_iff, List.mem_filterMap]
  constructor
  · intro hr
    have := lanes r hr
    exact ⟨r.lane, by simp; omega, find?_lane_of_mem distinct hr⟩
  · rintro ⟨lane, -, h⟩
    exact (found h).1

/-! ### LOAD_CUE (R26, R29 to R31) -/

theorem State.cueInUse_iff {s : State} {n : Nat} : s.cueInUse n = true ↔ InUse s n := by
  unfold State.cueInUse InUse
  rw [Bool.or_eq_true, beq_iff_eq, State.cueInFlight_iff, inFlight_iff]

theorem formCue_good {c : CueRecord} {body : List Byte} (h : parseCue body = some c) : formCue c body = .good := by
  simp [formCue, h]

/-- The anchor grains a record is stored with. -/
def anchorGrainsOf (meter : List MeterEntry) (c : CueRecord) : Option Nat :=
  match c.anchor with
  | some p => toGrains meter p
  | none => none

/-- R26: the anchor's check, by its cases. -/
theorem State.anchorOf_eq (s : State) (c : CueRecord) :
    s.anchorOf c =
      if c.anchor ≠ none ∧ s.meter = [] then .error .refusedState
      else if c.anchor ≠ none ∧ anchorGrainsOf s.meter c = none then .error .badArgument
      else .ok (anchorGrainsOf s.meter c) := by
  unfold State.anchorOf anchorGrainsOf
  cases c.anchor with
  | none => simp
  | some p =>
    by_cases empty : s.meter = []
    · simp [empty]
    · cases hp : toGrains s.meter p <;> simp [empty, hp]

theorem State.followAfterLoad_eq (s : State) (c : CueRecord) :
    s.followAfterLoad c =
      if (∃ d ∈ s.cues, d.record.number = c.number) ∧ s.sched.next = NextPtr.cue c.number then
        (if c.kind = CueKind.follow then some { count := 0, fresh := false } else none)
      else s.sched.follow :=
  if_congr (by rw [Bool.and_eq_true, cue?_isSome, decide_eq_true_iff]) rfl rfl

/-- LOAD_CUE of a record that passes R29's first checks, with a map its anchor lies on. -/
theorem State.loadCueRequest_eq {s : State} {c : CueRecord} (ranges : CueInRange c) (fields : CueFieldsAgree c)
    (distinct : (c.pages.map (fun r => r.lane)).Nodup) {anchor : Option Nat} (ha : s.anchorOf c = .ok anchor) :
    s.loadCueRequest c =
      if (s.cue? c.number).isSome && s.cueInUse c.number then refuse s .inUse
      else if (s.cue? c.number).isNone && decide (Config.maxCues ≤ s.cues.length) then refuse s .storeFull
      else (s.loadCue c anchor, .ok, .cueLoaded (s.cue? c.number).isNone (s.loadCue c anchor).cues.length) := by
  unfold State.loadCueRequest
  rw [if_neg, ha]
  simp [cueRangesOk_iff.mpr ranges, cueFieldsOk_iff.mpr fields, lanesDistinct_iff.mpr distinct]

theorem State.loadCueRequest_error {s : State} {c : CueRecord} (ranges : CueInRange c) (fields : CueFieldsAgree c)
    (distinct : (c.pages.map (fun r => r.lane)).Nodup) {code : Status} (ha : s.anchorOf c = .error code) :
    s.loadCueRequest c = refuse s code := by
  unfold State.loadCueRequest
  rw [if_neg, ha]
  simp [cueRangesOk_iff.mpr ranges, cueFieldsOk_iff.mpr fields, lanesDistinct_iff.mpr distinct]

theorem State.loadCueRequest_malformed {s : State} {c : CueRecord}
    (h : ¬ CueInRange c ∨ ¬ CueFieldsAgree c ∨ ¬ (c.pages.map (fun r => r.lane)).Nodup) :
    s.loadCueRequest c = refuse s .badArgument := by
  unfold State.loadCueRequest
  rw [← cueRangesOk_iff, ← cueFieldsOk_iff, ← lanesDistinct_iff] at h
  rw [if_pos (by simpa [or_assoc] using h)]

/-- Settles O12. -/
theorem loadCueStoresTheRecord : Obligations.LoadCueStoresTheRecord := by
  unfold Obligations.LoadCueStoresTheRecord
  intro s c body rest h parsed ok went refused held anchorGrains stored cues follow
  have taken : exec (.loadCue c) s = .next (answered kLoadCue (went.loadCueRequest c)) :=
    congrArg _ (h.answered (formCue_good parsed) _)
  have refuses : ∀ code, went.loadCueRequest c = refuse went code → exec (.loadCue c) s = .next (refused code) :=
    fun code hc => by rw [taken, hc, answered_refuse]
  have anchorOf := went.anchorOf_eq c
  refine ⟨fun malformed => refuses _ (State.loadCueRequest_malformed malformed),
    fun ranges fields distinct => ⟨fun anchored empty => ?_, fun anchored mapped off => ?_, fun anchored => ?_⟩⟩
  · rw [if_pos ⟨anchored, empty⟩] at anchorOf
    exact refuses _ (State.loadCueRequest_error ranges fields distinct anchorOf)
  · rw [if_neg (fun both => mapped both.2), if_pos ⟨anchored, off⟩] at anchorOf
    exact refuses _ (State.loadCueRequest_error ranges fields distinct anchorOf)
  · rw [if_neg (fun both => (anchored both.1).1 both.2), if_neg (fun both => (anchored both.1).2 both.2)] at anchorOf
    have eq := State.loadCueRequest_eq ranges fields distinct anchorOf
    have holds : (went.cue? c.number).isSome = true ↔ held := cue?_isSome went c.number
    have lacks : (went.cue? c.number).isNone = true ↔ ¬ held := cue?_isNone went c.number
    have stores : went.loadCue c anchorGrains = { went with cues := cues, sched := { s.sched with follow := follow } } := by
      have pages : sortRefs c.pages
          = [0, 1, 2, 3].filterMap (fun lane => c.pages.find? (fun r => r.lane == lane)) :=
        sortRefs_eq (fun r hr => (ranges.pages.2 r hr).1) distinct
      have list : insertCue stored s.cues = cues := insertCue_eq stored s.cues ok.rising
      unfold State.loadCue
      rw [pages, State.followAfterLoad_eq, ← list]
      rfl
    refine ⟨fun hh used => refuses _ ?_, fun hn full => refuses _ ?_, fun hh free => ?_, fun hn room => ?_⟩
    · rw [eq, if_pos]
      rw [Bool.and_eq_true, holds, State.cueInUse_iff]
      exact ⟨hh, used⟩
    · rw [eq, if_neg, if_pos]
      · rw [Bool.and_eq_true, lacks, decide_eq_true_iff]
        exact ⟨hn, full⟩
      · rw [Bool.and_eq_true, holds]
        exact fun both => hn both.1
    · have length : cues.length = s.cues.length := by
        rw [← insertCue_length_of_mem stored s.cues ok.rising hh]
        exact congrArg List.length (insertCue_eq stored s.cues ok.rising).symm
      rw [taken, eq, if_neg, if_neg, answered_taken _ _ _ (.inl rfl)]
      · have isNone : (went.cue? c.number).isNone = false :=
          Bool.eq_false_iff.mpr fun none => lacks.mp none hh
        change Host.Outcome.next ((went.loadCue c anchorGrains).withReply kLoadCue .ok
          (.cueLoaded (went.cue? c.number).isNone (went.loadCue c anchorGrains).cues.length)) = _
        rw [isNone, stores, length]
      · rw [Bool.and_eq_true, lacks]
        exact fun both => both.1 hh
      · rw [Bool.and_eq_true, State.cueInUse_iff]
        exact fun both => free both.2
    · have length : cues.length = s.cues.length + 1 := by
        rw [← insertCue_length_of_not_mem stored s.cues (fun d hd same => hn ⟨d, hd, same⟩)]
        exact congrArg List.length (insertCue_eq stored s.cues ok.rising).symm
      have kept : follow = s.sched.follow := if_neg fun both => hn both.1
      rw [taken, eq, if_neg, if_neg, answered_taken _ _ _ (.inl rfl)]
      · have isNone : (went.cue? c.number).isNone = true := lacks.mpr hn
        change Host.Outcome.next ((went.loadCue c anchorGrains).withReply kLoadCue .ok
          (.cueLoaded (went.cue? c.number).isNone (went.loadCue c anchorGrains).cues.length)) = _
        rw [isNone, stores, length, kept]
        rfl
      · rw [Bool.and_eq_true, decide_eq_true_iff]
        exact fun both => absurd (show 2048 ≤ s.cues.length from both.2) (by omega)
      · rw [Bool.and_eq_true, holds]
        exact fun both => hn both.1

/-! ### DELETE_CUE (R32 to R34) -/

theorem length_filter_number_ne {l : List Cue} (h : l.Pairwise (fun a b => a.record.number < b.record.number)) {n : Nat}
    (held : ∃ c ∈ l, c.record.number = n) : (l.filter (fun c => c.record.number ≠ n)).length = l.length - 1 := by
  induction l with
  | nil => simp at held
  | cons c rest ih =>
    obtain ⟨first, later⟩ := List.pairwise_cons.mp h
    by_cases hc : c.record.number = n
    · have all : rest.filter (fun d => decide (d.record.number ≠ n)) = rest := by
        rw [List.filter_eq_self]
        intro d hd
        have := first d hd
        simp only [decide_eq_true_eq]
        omega
      rw [List.filter_cons_of_neg (by simpa using hc), all]
      rfl
    · obtain ⟨d, hd, number⟩ := held
      rcases List.mem_cons.mp hd with rfl | hd
      · exact absurd number hc
      · rw [List.filter_cons_of_pos (by simpa using hc), List.length_cons, List.length_cons,
          ih later ⟨d, hd, number⟩]
        have := List.length_pos_of_mem hd
        omega

/-- R40: the pointer to the cue following a number. -/
theorem State.following_eq (s : State) (n : Nat) :
    s.following n = match s.cues.find? (fun c => n < c.record.number) with
      | some c => .cue c.record.number
      | none => .endOfList := by
  unfold State.following pointTo
  rw [← List.head?_filter]
  cases s.cues.filter (fun c => decide (n < c.record.number)) <;> rfl

/-- R44: the timer for a pointer at a cue of the list. -/
theorem State.followFor_cue {s : State} (ok : s.cues.Pairwise (fun a b => a.record.number < b.record.number)) {c : Cue}
    (hc : c ∈ s.cues) :
    s.followFor (.cue c.record.number)
      = if c.record.kind = CueKind.follow then some { count := 0, fresh := false } else none := by
  have found : s.cue? c.record.number = some c := find?_of_sorted ok hc
  unfold State.followFor State.namesFollow
  simp only [found, decide_eq_true_eq]

theorem State.followFor_end (s : State) : s.followFor .endOfList = none := rfl

/-- Settles O13. -/
theorem deleteCueMovesThePointer : Obligations.DeleteCueMovesThePointer := by
  unfold Obligations.DeleteCueMovesThePointer
  intro s n body rest h ok went left after history
  have taken : exec (.deleteCue n) s = .next (answered kDeleteCue (went.deleteCueRequest n)) :=
    congrArg _ (h.answered (form := formFree) rfl _)
  have lacks : (went.cue? n).isNone = true ↔ ¬ ∃ c ∈ s.cues, c.record.number = n := cue?_isNone went n
  have used : went.cueInUse n = true ↔ InUse s n := State.cueInUse_iff (s := went)
  refine ⟨fun absent => ?_, fun held inUse => ?_, fun held free => ?_⟩
  · rw [taken, State.deleteCueRequest, if_pos (lacks.mpr absent), answered_refuse]
  · rw [taken, State.deleteCueRequest, if_neg (fun no => lacks.mp no held), if_pos (used.mpr inUse), answered_refuse]
  · have isLeft : s.cues.filter (fun c => c.record.number != n) = left :=
      List.filter_congr fun c _ => (decide_not ..).symm
    have isHistory : s.sched.history.filter (fun m => m != n) = history :=
      List.filter_congr fun m _ => (decide_not ..).symm
    have count : left.length = s.cues.length - 1 := length_filter_number_ne ok.rising held
    have sorted : left.Pairwise (fun a b => a.record.number < b.record.number) := ok.rising.filter _
    rw [taken, State.deleteCueRequest, if_neg (fun no => lacks.mp no held), if_neg (fun u => free (used.mp u)),
      answered_taken _ _ _ (.inl rfl)]
    refine congrArg _ ?_
    have deleted : went.deleteCue n = { went with
        cues := left
        sched :=
          if s.sched.next = NextPtr.cue n then
            { s.sched with
              history := history
              next := match after with
                | some c => .cue c.record.number
                | none => .endOfList
              follow := match after with
                | some c => if c.record.kind = CueKind.follow then some { count := 0, fresh := false } else none
                | none => none }
          else { s.sched with history := history } } := by
      have next : ∀ sc, State.following { went with cues := left, sched := sc } n
          = match after with
            | some c => .cue c.record.number
            | none => .endOfList := fun sc => by
        have same : left.find? (fun c => n < c.record.number) = after := by
          rw [← List.head?_filter, List.filter_filter]
          simp only [after]
          rw [← List.head?_filter]
          refine congrArg List.head? (List.filter_congr fun c _ => ?_)
          simp only [ne_eq, decide_not, Bool.and_eq_left_iff_imp, decide_eq_true_eq, Bool.not_eq_eq_eq_not,
            Bool.not_true, decide_eq_false_iff_not]
          omega
        rw [State.following_eq, same]
      unfold State.deleteCue
      have cues : went.cues.filter (fun c => c.record.number != n) = left := isLeft
      have sched : went.sched.history.filter (fun m => m != n) = history := isHistory
      rw [cues, sched]
      by_cases named : s.sched.next = NextPtr.cue n
      · rw [if_pos (show went.sched.next = .cue n from named), if_pos named]
        simp only [next]
        cases found : after with
        | none => rfl
        | some c =>
          have mem : c ∈ left := by
            refine List.mem_filter.mpr ⟨List.mem_of_find?_eq_some found, ?_⟩
            have := List.find?_some found
            simp only [decide_eq_true_eq] at this ⊢
            omega
          have follow := State.followFor_cue (s := { went with
            cues := left, sched := { went.sched with history := history } }) sorted mem
          simp only [follow]
          rfl
      · rw [if_neg (show ¬ went.sched.next = .cue n from named), if_neg named]
        rfl
    change (went.deleteCue n).withReply kDeleteCue .ok (.cueCount (went.deleteCue n).cues.length) = _
    rw [deleted, ← count] <;> rfl

/-! ### READ_CUE (R35) -/

/-- Settles O14. -/
theorem readCueReadsTheRecord : Obligations.ReadCueReadsTheRecord := by
  unfold Obligations.ReadCueReadsTheRecord
  intro s n mode body rest h went found
  have taken : exec (.readCue n mode) s = .next (answered kReadCue (went.readCueRequest n mode)) :=
    congrArg _ (h.answered (form := formFree) rfl _)
  have target : went.readTarget n mode = found := by
    cases mode with
    | exactly => exact (List.head?_filter ..).symm
    | atOrAfter => exact (List.head?_filter ..).symm
  have numbered : 1 ≤ n → n ≤ 65000 → ¬ (!cueNumberOk n) = true := fun low high => by
    simp [cueNumberOk_iff.mpr ⟨low, high⟩]
  refine ⟨fun out => ?_, fun low high none => ?_, fun low high c some => ?_⟩
  · rw [taken, State.readCueRequest, if_pos (by simpa using mt cueNumberOk_iff.mp out), answered_refuse]
  · rw [taken, State.readCueRequest, if_neg (numbered low high), target, none, answered_refuse]
  · refine ⟨s.sched.live.cue == .some c.record.number, s.cueInFlight c.record.number,
      decide (s.sched.next = .cue c.record.number), beq_iff_eq, ?_, decide_eq_true_iff, ?_⟩
    · rw [State.cueInFlight_iff, inFlight_iff]
    · have history : s.sched.history.count c.record.number
          = (s.sched.history.filter (fun m => m == c.record.number)).length := by
        rw [List.count, List.countP_eq_length_filter]
      rw [taken, State.readCueRequest, if_neg (numbered low high), target, some, history]
      rfl

/-! ### CLEAR_ACT (R36, R37) -/

theorem State.flight_iff {s : State} : s.flight = true ↔ Flying s := by
  unfold State.flight Flying
  rw [Bool.or_eq_true, Option.isSome_iff_ne_none, Bool.not_eq_true', List.isEmpty_eq_false_iff]

/-- Settles O15. -/
theorem clearActEmptiesTheAct : Obligations.ClearActEmptiesTheAct := by
  unfold Obligations.ClearActEmptiesTheAct
  intro s rest h went
  have taken : exec .clearAct s = .next (answered kClearAct went.clearActRequest) :=
    congrArg _ (h.answered (form := formEmpty) rfl _)
  have flies : went.flight = true ↔ Flying s := State.flight_iff (s := went)
  refine ⟨fun runs => ?_, fun idle flying => ?_, fun idle quiet => ?_⟩
  · rw [taken, State.clearActRequest, if_pos (show went.sched.mode ≠ .idle from runs), answered_refuse]
  · rw [taken, State.clearActRequest, if_neg (show ¬ went.sched.mode ≠ .idle from not_not.mpr idle),
      if_pos (flies.mpr flying), answered_refuse]
  · rw [taken, State.clearActRequest, if_neg (show ¬ went.sched.mode ≠ .idle from not_not.mpr idle),
      if_neg (fun f => quiet (flies.mp f))]
    rfl

end Sys2Proof.Machine
end

section
/-!
Cue scheduling and firing (03): the requests that run the show, and what a firing does.
-/

namespace Sys2Proof.Machine

set_option Elab.async false

/-! ### The pending GO (R45) -/

/-- The pending GO emptied, with its notice if one was held. -/
theorem State.lapse_eq (s : State) (cause : LapseCause) :
    s.lapse cause =
      if s.sched.pendingGo = none then { s with sched := { s.sched with pendingGo := none } }
      else ({ s with sched := { s.sched with pendingGo := none } }).post (.goLapsed cause s.bus.sweepNumber) := by
  unfold State.lapse
  cases h : s.sched.pendingGo with
  | none =>
    have same : { s.sched with pendingGo := none } = s.sched := by rw [← h]
    rw [if_pos rfl, same]
  | some g => rw [if_neg (by simp)]

theorem State.clearLatches_post (s : State) (n : Notice) : (s.post n).clearLatches = s.clearLatches.post n := by
  have reset : s.clearLatches.inReset = s.inReset := rfl
  unfold State.post
  rw [reset]
  split <;> rfl

/-- A GO_LAPSED is posted only when a GO was pending; the latches are cleared either way. -/
theorem State.clearLatches_lapse (s : State) (cause : LapseCause) :
    (s.lapse cause).clearLatches =
      if s.sched.pendingGo = none then ({ s with sched := { s.sched with pendingGo := none } }).clearLatches
      else ({ s with sched := { s.sched with pendingGo := none } }).clearLatches.post
        (.goLapsed cause s.bus.sweepNumber) := by
  rw [State.lapse_eq]
  split
  · rfl
  · rw [State.clearLatches_post]

/-! ### ARM (R52) -/

theorem ite_adjusted_ok (p : Prop) [Decidable p] :
    (if p then Status.adjusted else .ok) = .ok ∨ (if p then Status.adjusted else .ok) = .adjusted := by
  split
  · exact .inr rfl
  · exact .inl rfl

/-- R20, R52: the tracker after ARM. -/
theorem Tracker.arm_eq (tr : Tracker) (g : Nat) (tempo : Option Nat) :
    tr.arm g tempo =
      let ppb := tr.pendingPpb.getD tr.ppb
      { tr with
        mode := .free, confirmed := g / (192 / ppb) * (192 / ppb), ppb := ppb, pendingPpb := none, pulseCounter := 0
        lossOpen := false
        period := match tempo with
          | some v => (2 * 600000000 + max 200 (min v 3000)) / (2 * max 200 (min v 3000))
          | none => tr.period } := by
  unfold Tracker.arm Tracker.takePpb
  cases hp : tr.pendingPpb <;> cases tempo <;> simp [downTo, stepOf, hp] <;> rfl

theorem limited_iff {tempo : Option Nat} :
    (match tempo with | some v => limitTempo v != v | none => false) = true ↔ ∃ v ∈ tempo, v < 200 ∨ 3000 < v := by
  cases tempo with
  | none => simp
  | some v =>
    simp only [limitTempo, bne_iff_ne, Option.mem_def, Option.some.injEq, exists_eq_left']
    omega

/-- A taken ARM, from its start position and its next cue, as it is answered. -/
theorem answered_armTaken (s : State) (g : Nat) (tempo : Option Nat) (next : NextPtr) (held : Bool) :
    answered kArm (s.armTaken g tempo next held) =
      let armed : State := { s with
        tracker := s.tracker.arm g tempo
        sched := { s.sched with
          mode := if held then .held else .running
          next := next, follow := s.followFor next, pendingGo := none }
        listener := { s.listener with
          slots := s.listener.slots.mapIdx (fun _ sl => { sl with latch := false }) } }
      (if s.sched.pendingGo = none then armed else armed.post (.goLapsed .arm s.bus.sweepNumber)).withReply kArm
        (if (s.tracker.arm g tempo).confirmed ≠ g ∨ (∃ v ∈ tempo, v < 200 ∨ 3000 < v) then .adjusted else .ok)
        (.armed (s.tracker.arm g tempo).confirmed next) := by
  have code : (if ((s.tracker.arm g tempo).confirmed != g
      || (match tempo with | some v => limitTempo v != v | none => false)) = true then Status.adjusted else .ok)
      = if (s.tracker.arm g tempo).confirmed ≠ g ∨ (∃ v ∈ tempo, v < 200 ∨ 3000 < v) then .adjusted else .ok :=
    if_congr (by rw [Bool.or_eq_true, bne_iff_ne, limited_iff]) rfl rfl
  unfold State.armTaken
  simp only [State.clearLatches_lapse]
  rw [answered_taken _ _ _ (ite_adjusted_ok _)]
  exact congrArg (fun c => State.withReply _ kArm c _) code

/-- Settles O16. -/
theorem armSetsTheStart : Obligations.ArmSetsTheStart := by
  unfold Obligations.ArmSetsTheStart
  intro s pos tempo first held body rest h went refused ppb
  have taken : exec (.arm pos tempo first held) s = .next (answered kArm (went.armRequest pos tempo first held)) :=
    congrArg _ (h.answered (form := formFree) rfl _)
  rw [taken]
  refine congrArg _ ?_
  unfold State.armRequest
  have meter : went.meter = s.meter := rfl
  have cues : went.cues = s.cues := rfl
  rw [meter, cues]
  by_cases empty : s.meter = []
  · rw [if_pos empty, if_pos empty, answered_refuse]
  rw [if_neg empty, if_neg empty]
  cases toGrains s.meter pos with
  | none => exact answered_refuse ..
  | some g =>
    have armed := answered_armTaken went g tempo
    have tracker : went.tracker = s.tracker := rfl
    simp only [tracker, Tracker.arm_eq] at armed
    simp only
    cases first with
    | none =>
      rw [if_neg (by simp), if_neg (by simp)]
      have next : pointTo s.cues = match (none : Option Nat), s.cues with
          | some n, _ => .cue n
          | none, c :: _ => .cue c.record.number
          | none, [] => .endOfList := by cases s.cues <;> rfl
      rw [armed, next]
      rfl
    | some n =>
      have range : (∃ m ∈ some n, m < 1 ∨ 65000 < m) ↔ n < 1 ∨ Config.maxCueNumber < n := by
        simp [Config.maxCueNumber]
      have absent : (∃ m ∈ some n, ∀ c ∈ s.cues, c.record.number ≠ m) ↔ (went.cue? n).isNone = true := by
        rw [cue?_isNone]
        simp [cues]
      by_cases out : n < 1 ∨ Config.maxCueNumber < n
      · rw [if_pos (range.mpr out)]
        simp only [if_pos out, answered_refuse]
        rfl
      · rw [if_neg (mt range.mp out)]
        simp only [if_neg out]
        by_cases none : (went.cue? n).isNone = true
        · rw [if_pos (absent.mpr none), if_pos none, answered_refuse]
        · rw [if_neg (mt absent.mp none), if_neg none, armed]
          rfl

/-! ### STOP, HOLD and RELEASE (R53, R57) -/

/-- Settles O17. -/
theorem stopHoldAndRelease : Obligations.StopHoldAndRelease := by
  unfold Obligations.StopHoldAndRelease
  intro s rest stopped
  refine ⟨fun h => ?_, fun h => ?_, fun h => ?_⟩
  · have taken : exec .stop s = .next (answered kStop (s.withRequests rest).stopRequest) :=
      congrArg _ (h.answered (form := formEmpty) rfl _)
    rw [taken, State.stopRequest, State.clearLatches_lapse, answered_taken _ _ _ (.inl rfl)]
    rfl
  · have taken : exec .hold s = .next (answered kHold (s.withRequests rest).holdRequest) :=
      congrArg _ (h.answered (form := formEmpty) rfl _)
    rw [taken, State.holdRequest]
    by_cases idle : s.sched.mode = .idle
    · rw [if_pos idle, if_pos (show (s.withRequests rest).sched.mode = .idle from idle), answered_refuse]
    · rw [if_neg idle, if_neg (show ¬ (s.withRequests rest).sched.mode = .idle from idle)]
      rfl
  · have taken : exec .release s = .next (answered kRelease (s.withRequests rest).releaseRequest) :=
      congrArg _ (h.answered (form := formEmpty) rfl _)
    rw [taken, State.releaseRequest]
    by_cases idle : s.sched.mode = .idle
    · rw [if_pos idle, if_pos (show (s.withRequests rest).sched.mode = .idle from idle), answered_refuse]
    · rw [if_neg idle, if_neg (show ¬ (s.withRequests rest).sched.mode = .idle from idle)]
      rfl

/-! ### Firings and waiting work (R50, R76) -/

theorem stageSlot_eq_some {c : CueRecord} {i : Fin 4} :
    stageSlot c = some i ↔ c.kind = CueKind.stage ∧ c.slot = some i.val := by
  unfold stageSlot
  split
  case h_1 n kind slot =>
    rw [fourth?_eq_some, kind, slot]
    simp [eq_comm]
  case h_2 other =>
    refine iff_of_false (by simp) ?_
    rintro ⟨kind, slot⟩
    exact other _ kind slot

theorem State.consumeLatch_eq (s : State) (c : CueRecord) :
    s.consumeLatch c = { s with listener := { s.listener with
      slots := s.listener.slots.mapIdx (fun i sl =>
        if c.kind = CueKind.stage ∧ c.slot = some i.val then { sl with latch := false } else sl) } } := by
  have slots : ∀ slots, (∀ i, (s.consumeLatch c).listener.slots.get i = Four.get slots i) →
      s.consumeLatch c = { s with listener := { s.listener with slots := slots } } := by
    intro slots hs
    rw [← Four.ext_get hs]
    unfold State.consumeLatch
    split <;> rfl
  refine slots _ fun i => ?_
  rw [Four.get_mapIdx]
  refine Eq.trans ?_ (if_congr stageSlot_eq_some rfl rfl)
  unfold State.consumeLatch
  cases hc : stageSlot c with
  | none => simp
  | some j =>
    simp only [State.updSlot, Four.get_set, Option.some.injEq]
    by_cases same : i = j
    · rw [if_pos same, if_pos same.symm, same]
    · rw [if_neg same, if_neg (Ne.symm same)]

theorem State.workWaits_iff {s : State} : s.workWaits = true ↔ ∃ i, Waits s i := by
  unfold State.workWaits Waits
  rw [List.any_eq_true]
  constructor
  · rintro ⟨i, -, waits⟩
    exact ⟨i, by simpa [Option.isSome_iff_ne_none, or_assoc] using waits⟩
  · rintro ⟨i, waits⟩
    exact ⟨i, mem_fourNumbers i, by simpa [Option.isSome_iff_ne_none, or_assoc] using waits⟩

/-- Settles O18. -/
theorem firingsAndWaitingWorkAreBuilt : Obligations.FiringsAndWaitingWorkAreBuilt := by
  unfold Obligations.FiringsAndWaitingWorkAreBuilt
  constructor
  · intro s c trigger next moved
    unfold State.fire State.buildFiring
    rw [State.consumeLatch_eq]
  refine fun s => ⟨fun free waits => ?_, fun busy => ?_⟩
  · rw [State.composeWork, if_pos]
    rw [Bool.and_eq_true, State.workWaits_iff, Option.isNone_iff_eq_none]
    exact ⟨free, waits⟩
  · rw [State.composeWork, if_neg]
    rw [Bool.and_eq_true, State.workWaits_iff, Option.isNone_iff_eq_none]
    rintro ⟨free, i, waits⟩
    rcases busy with flies | rests
    · exact flies free
    · exact rests i waits

/-! ### GO (R54) -/

/-- Settles O19. -/
theorem goFiresOrWaits : Obligations.GoFiresOrWaits := by
  unfold Obligations.GoFiresOrWaits
  intro s rest h went refused
  have taken : exec .go s = .next (answered kGo went.goRequest) :=
    congrArg _ (h.answered (form := formEmpty) rfl _)
  have flies : went.flight = true ↔ Flying s := State.flight_iff (s := went)
  have runs : ∀ {p : Prop}, (s.sched.mode ≠ .idle → p) → s.sched.mode ≠ .idle → p := fun f => f
  have next : went.nextCue? = s.nextCue? := rfl
  have idle : s.sched.mode ≠ .idle → ¬ went.sched.mode = .idle := id
  refine ⟨fun rests => ?_, fun on none => ?_, fun on c some => ⟨fun quiet => ?_, fun flying free => ?_,
    fun flying held => ?_⟩⟩
  · rw [taken, State.goRequest, if_pos (show went.sched.mode = .idle from rests), answered_refuse]
  · rw [taken, State.goRequest, if_neg (idle on), next, none, answered_refuse]
  · rw [taken, State.goRequest, if_neg (idle on), next, some]
    simp only [if_neg (mt flies.mp quiet)]
    rfl
  · rw [taken, State.goRequest, if_neg (idle on), next, some]
    simp only [if_pos (flies.mpr flying)]
    rw [if_neg (by rw [Option.isSome_iff_ne_none]; exact not_not.mpr free)]
    rfl
  · rw [taken, State.goRequest, if_neg (idle on), next, some]
    simp only [if_pos (flies.mpr flying)]
    rw [if_pos (show went.sched.pendingGo.isSome = true from Option.isSome_iff_ne_none.mpr held), answered_refuse]

/-! ### JUMP (R55) -/

/-- R55: the sync part of a JUMP, at an anchor and with the tracker running. -/
theorem State.jumpSync_some {s : State} (run : s.tracker.mode ≠ .stopped) (g : Nat) :
    s.jumpSync (some g) =
      ({ s with tracker := s.tracker.syncTo g s.showClock },
        if (s.tracker.syncTo g s.showClock).confirmed = g then .ok else .adjusted,
        some (s.tracker.syncTo g s.showClock).confirmed) := by
  simp only [State.jumpSync, if_neg run, State.syncGrains]

theorem State.jumpSync_stopped {s : State} (stopped : s.tracker.mode = .stopped) (anchor : Option Nat) :
    s.jumpSync anchor = (s, .ok, none) := by
  cases anchor with
  | none => rfl
  | some g => simp only [State.jumpSync, if_pos stopped]

/-- R55: the sync part of a JUMP: the anchor it brings the tracker to, if any. -/
theorem State.jumpSync_eq {s : State} {anchor target : Option Nat}
    (ht : (if s.tracker.mode ≠ .stopped then anchor else none) = target) :
    let ppb := s.tracker.pendingPpb.getD s.tracker.ppb
    let brought := target.map (fun g => g / (192 / ppb) * (192 / ppb))
    s.jumpSync anchor =
      ({ s with tracker := match brought with
          | none => s.tracker
          | some g =>
            let set : Tracker := { s.tracker with
              confirmed := g, ppb := ppb, pendingPpb := none, pulseCounter := 0 }
            if s.tracker.mode = .free then set
            else { set with mode := .following, tc := s.showClock, lossOpen := false } },
        if brought = target then .ok else .adjusted, brought) := by
  intro ppb brought
  by_cases stopped : s.tracker.mode = .stopped
  · have none : target = none := ht.symm.trans (if_neg (not_not.mpr stopped))
    have nowhere : brought = Option.none := by simp only [brought, none, Option.map_none]
    rw [State.jumpSync_stopped stopped, nowhere, none, if_pos rfl]
  · have isTarget : target = anchor := ht.symm.trans (if_pos stopped)
    cases anchor with
    | none =>
      have nowhere : brought = none := by simp only [brought, isTarget, Option.map_none]
      rw [nowhere, isTarget, if_pos rfl]
      rfl
    | some g =>
      have confirmed : (s.tracker.syncTo g s.showClock).confirmed = g / (192 / ppb) * (192 / ppb) := by
        rw [Tracker.syncTo_eq]
        simp only
        split <;> rfl
      have isBrought : brought = some (g / (192 / ppb) * (192 / ppb)) := by
        simp only [brought, isTarget, Option.map_some]
      rw [State.jumpSync_some stopped, confirmed, isBrought, isTarget, Tracker.syncTo_eq]
      exact congrArg (Prod.mk _) (congrArg (fun c => Prod.mk c _) (if_congr (by simp) rfl rfl))

/-- Settles O20. -/
theorem jumpPointsSyncsAndFires : Obligations.JumpPointsSyncsAndFires := by
  unfold Obligations.JumpPointsSyncsAndFires
  intro s n sync fire body rest h went refused
  have taken : exec (.jump n sync fire) s = .next (answered kJump (went.jumpRequest n sync fire)) :=
    congrArg _ (h.answered (form := formFree) rfl _)
  have flies : went.flight = true ↔ Flying s := State.flight_iff (s := went)
  have idle : s.sched.mode ≠ .idle → ¬ went.sched.mode = .idle := id
  have inRange : 1 ≤ n → n ≤ 65000 → ¬ (n < 1 ∨ Config.maxCueNumber < n) := fun low high out => by
    simp only [Config.maxCueNumber] at out
    omega
  have found : went.cue? n = s.cue? n := rfl
  refine ⟨fun rests => ?_, fun on out => ?_, fun on low high => ⟨fun none => ?_, fun c some =>
    ⟨fun wants bare => ?_, fun anchored => ⟨fun fires held flying => ?_, fun free => ?_⟩⟩⟩⟩
  · rw [taken, State.jumpRequest, if_pos (show went.sched.mode = .idle from rests), answered_refuse]
  · rw [taken, State.jumpRequest, if_neg (idle on), if_pos (show n < 1 ∨ Config.maxCueNumber < n from out),
      answered_refuse]
  · rw [taken, State.jumpRequest, if_neg (idle on), if_neg (inRange low high), found, none, answered_refuse]
  · rw [taken, State.jumpRequest, if_neg (idle on), if_neg (inRange low high), found, some]
    simp only
    rw [if_pos (by simp [wants, bare]), answered_refuse]
  · rw [taken, State.jumpRequest, if_neg (idle on), if_neg (inRange low high), found, some]
    simp only
    rw [if_neg (by simpa using anchored), if_pos, answered_refuse]
    rw [Bool.and_eq_true, Bool.and_eq_true, flies, Option.isSome_iff_ne_none]
    exact ⟨⟨fires, held⟩, flying⟩
  · intro ppb target brought pointed code
    have busy : ¬ (fire && went.sched.pendingGo.isSome && went.flight) = true := by
      rw [Bool.and_eq_true, Bool.and_eq_true, flies, Option.isSome_iff_ne_none, and_assoc]
      exact free
    have isTarget : (if went.tracker.mode ≠ .stopped then (if sync = true then c.anchorGrains else none) else none)
        = target := by
      change (if s.tracker.mode ≠ .stopped then (if sync = true then c.anchorGrains else none) else none) = _
      cases sync <;> by_cases stopped : s.tracker.mode = .stopped <;> simp [target, stopped]
    have synced : State.jumpSync { went with
        sched := { went.sched with next := .cue n, follow := went.followFor (.cue n) } }
        (if sync = true then c.anchorGrains else none) = (pointed, code, brought) :=
      State.jumpSync_eq (s := { went with
        sched := { went.sched with next := .cue n, follow := went.followFor (.cue n) } }) isTarget
    have ok : code = .ok ∨ code = .adjusted := by
      simp only [code]
      split <;> simp
    have jumped : went.jumpRequest n sync fire =
        ((if fire then pointed.jumpFire c else (pointed, .pointed)).1, code,
          .jumped (if fire then pointed.jumpFire c else (pointed, .pointed)).2 brought) := by
      rw [State.jumpRequest, if_neg (idle on), if_neg (inRange low high), found, some]
      simp only
      rw [if_neg (by simpa using anchored), if_neg busy, synced]
    have flight : pointed.flight = went.flight := rfl
    rw [taken, jumped]
    refine ⟨fun points => ?_, fun fires flying => ?_, fun fires quiet => ?_⟩
    · rw [if_neg (by simp [points]), answered_taken _ _ _ ok]
    · rw [if_pos fires, State.jumpFire, flight, if_pos (flies.mpr flying), answered_taken _ _ _ ok]
    · rw [if_pos fires, State.jumpFire, flight, if_neg (mt flies.mp quiet), answered_taken _ _ _ ok]
      rfl

/-! ### BACK (R56) -/

@[simp] theorem PanelBus.dropTransfer_sweepNumber (b : PanelBus) : b.dropTransfer.sweepNumber = b.sweepNumber := by
  unfold PanelBus.dropTransfer
  split
  · split <;> rfl
  · rfl

theorem State.fire_sweepNumber (s : State) (c : Cue) (trigger : Trigger) (next : NextPtr) :
    (s.fire c trigger next).bus.sweepNumber = s.bus.sweepNumber := by
  have latch := (s.consumeLatch_same c.record).bus (by decide)
  unfold State.fire State.buildFiring State.build
  simp only
  split
  · simp [State.spendWork, latch]
  · simp [State.handOver, State.spendWork, latch]

/-- Settles O21. -/
theorem backFiresTheEntryBefore : Obligations.BackFiresTheEntryBefore := by
  unfold Obligations.BackFiresTheEntryBefore
  intro s rest h went refused
  have taken : exec .back s = .next (answered kBack went.backRequest) :=
    congrArg _ (h.answered (form := formEmpty) rfl _)
  have flies : went.flight = true ↔ Flying s := State.flight_iff (s := went)
  have idle : s.sched.mode ≠ .idle → ¬ went.sched.mode = .idle := id
  have history : went.sched.history = s.sched.history := rfl
  refine ⟨fun rests => ?_, fun on few => ?_, fun on older x y entries => ?_⟩
  · rw [taken, State.backRequest, if_pos (show went.sched.mode = .idle from rests), answered_refuse]
  · rw [taken, State.backRequest, if_neg (idle on), history]
    have short : s.sched.history.reverse.length < 2 := by simpa using few
    generalize s.sched.history.reverse = l at short
    match l, short with
    | [], _ => exact congrArg _ (answered_refuse ..)
    | [_], _ => exact congrArg _ (answered_refuse ..)
  · have reversed : s.sched.history.reverse = x :: y :: older.reverse := by simp [entries]
    constructor
    · intro flying
      rw [taken, State.backRequest, if_neg (idle on), history, reversed]
      simp only [if_pos (flies.mpr flying)]
      exact congrArg _ (answered_refuse ..)
    · intro quiet c found fired back
      have found : went.cue? y = some c := found
      rw [taken, State.backRequest, if_neg (idle on), history, reversed]
      simp only [if_neg (mt flies.mp quiet), found]
      have cues : (went.fire c .back (.cue x)).cues = s.cues := (went.fire_same _ _ _).cues (by decide)
      have follow : (went.fire c .back (.cue x)).followFor (.cue x) = s.followFor (.cue x) := by
        unfold State.followFor State.namesFollow State.cue?
        rw [cues]
      have pending : (went.fire c .back (.cue x)).sched.pendingGo = s.sched.pendingGo := by
        rw [State.fire_sched]
        rfl
      rw [State.lapse_eq, follow, answered_taken _ _ _ (.inl rfl)]
      simp only [pending, State.fire_sweepNumber]
      rfl

end Sys2Proof.Machine
end

section
/-!
Cue scheduling and firing (03): the scheduler's boundary, the readiness walk, the choice and the commit report.
-/

namespace Sys2Proof.Machine

set_option Elab.async false

/-! ### The boundary (R41, R44 to R46) -/

/-- R41, R44: the counts after a boundary. -/
theorem Scheduler.raise_eq (sc : Scheduler) :
    sc.raise = { sc with
      dwell := if sc.noRise then sc.dwell else min (sc.dwell + 1) 1000
      noRise := false
      follow := sc.follow.map fun t =>
        if sc.noRise ∧ t.fresh then { t with fresh := false }
        else { count := min (t.count + 1) 3000, fresh := false } } := by
  obtain ⟨mode, next, live, dwell, noRise, follow, pendingGo, history, blackout⟩ := sc
  cases noRise with
  | false => cases follow <;> rfl
  | true =>
    cases follow with
    | none => rfl
    | some t => cases h : t.fresh <;> simp [Scheduler.raise, FollowTimer.rise, h]

theorem State.afterRaise_rests {s : State}
    (h : Flying s ∨ s.sched.mode = .idle ∨ (s.sched.mode = .held ∧ s.sched.pendingGo = none)) (b : Boundary) :
    s.afterRaise b = s := by
  unfold State.afterRaise
  by_cases flying : Flying s
  · rw [if_pos (State.flight_iff.mpr flying)]
  · rw [if_neg (mt State.flight_iff.mp flying)]
    rcases h with flies | idle | ⟨held, none⟩
    · exact absurd flies flying
    · simp only [idle]
    · simp only [held, none]

theorem State.afterRaise_pending {s : State} (quiet : ¬ Flying s) (runs : s.sched.mode ≠ .idle) {g : PendingGo}
    (held : s.sched.pendingGo = some g) (b : Boundary) : s.afterRaise b = s.firePending g := by
  unfold State.afterRaise
  rw [if_neg (mt State.flight_iff.mp quiet), held]
  cases mode : s.sched.mode with
  | idle => exact absurd mode runs
  | running | held => rfl

theorem State.afterRaise_running {s : State} (quiet : ¬ Flying s) (mode : s.sched.mode = .running)
    (none : s.sched.pendingGo = none) (b : Boundary) : s.afterRaise b = s.evaluate b := by
  unfold State.afterRaise
  rw [if_neg (mt State.flight_iff.mp quiet)]
  simp only [mode, none]

theorem execSchedulerBoundary_cons {s : State} {b : Boundary} {due : List Boundary}
    (h : s.bus.schedulerDue = b :: due) :
    exec .schedulerBoundary s = .next (State.schedulerHandles { s with bus := { s.bus with schedulerDue := due } } b) := by
  simp only [exec, execSchedulerBoundary, h]

/-- Settles O22. -/
theorem schedulerBoundaryInOrder : Obligations.SchedulerBoundaryInOrder := by
  unfold Obligations.SchedulerBoundaryInOrder
  intro s b due hdue period timer raised
  have start : exec .schedulerBoundary s = .next (raised.afterRaise b) := by
    have run : ¬ State.inReset { s with bus := { s.bus with schedulerDue := due } } = true := by
      simp [State.inReset, period]
    rw [execSchedulerBoundary_cons hdue, State.schedulerHandles, if_neg run, Scheduler.raise_eq]
  have flies : Flying raised ↔ Flying s := Iff.rfl
  refine ⟨fun rests => ?_, fun quiet runs g held => ?_, fun quiet mode none => ?_⟩
  · rw [start, State.afterRaise_rests (s := raised) rests]
  · intro emptied
    rw [start, State.afterRaise_pending (s := raised) quiet runs held, State.firePending]
    refine congrArg _ ?_
    have next : raised.nextCue? = s.nextCue? := rfl
    rw [next]
    cases s.nextCue? with
    | some c => cases g <;> rfl
    | none =>
      have pending : ¬ raised.sched.pendingGo = none := by
        rw [show raised.sched.pendingGo = some g from held]
        simp
      simp only [State.lapse_eq, if_neg pending]
      rfl
  · rw [start, State.afterRaise_running (s := raised) quiet mode none]

/-! ### Readiness (R47, R48) -/

theorem State.readyAt_manual {s : State} {c : Cue} (kind : c.record.kind = .manual) (b : Boundary) (first : Bool)
    (used : List (Fin 4)) : s.readyAt b first used c = false := by
  simp only [State.readyAt, kind]

theorem State.readyAt_timed {s : State} {c : Cue} (kind : c.record.kind = .timed) (b : Boundary) (first : Bool)
    (used : List (Fin 4)) :
    s.readyAt b first used c = true ↔ (s.tracker.mode = .following ∨ s.tracker.mode = .waiting)
      ∧ ∃ p anchor, s.positionAt (s.readingTime b) = some p ∧ c.anchorGrains = some anchor
        ∧ anchor ≤ p + s.leadGrains b.periodMs c.record := by
  simp only [State.readyAt, kind]
  cases s.tracker.mode <;> cases s.positionAt (s.readingTime b) <;> cases c.anchorGrains <;> simp

theorem State.readyAt_follow {s : State} {c : Cue} (kind : c.record.kind = .follow) (b : Boundary) (first : Bool)
    (used : List (Fin 4)) :
    s.readyAt b first used c = true ↔ first = true ∧ ∃ timer delay, s.sched.follow = some timer
      ∧ c.record.delayMs = some delay
      ∧ (delay + s.params.sweepPeriod - 1) / s.params.sweepPeriod ≤ timer.count := by
  simp only [State.readyAt, kind]
  cases s.sched.follow with
  | none => simp
  | some timer =>
    cases c.record.delayMs with
    | none => simp
    | some delay =>
      simp only [Bool.and_eq_true, decide_eq_true_iff, Option.some.injEq, exists_and_left, exists_eq_left']
      exact Iff.rfl

theorem State.readyAt_stage {s : State} {c : Cue} (kind : c.record.kind = .stage) (b : Boundary) (first : Bool)
    (used : List (Fin 4)) :
    s.readyAt b first used c = true ↔
      ∃ i : Fin 4, c.record.slot = some i.val ∧ (s.listener.slots.get i).latch = true ∧ i ∉ used := by
  have slot : ∀ i, stageSlot c.record = some i ↔ c.record.slot = some i.val := fun i => by
    rw [stageSlot_eq_some]
    exact and_iff_right kind
  simp only [State.readyAt, kind, State.latchSet, ← slot]
  cases stageSlot c.record <;> simp

theorem State.drives_iff {s : State} : s.drives = true ↔ s.own.state = .driving ∨ s.own.state = .releasing := by
  unfold State.drives
  cases s.own.state <;> simp

theorem State.linkQuiet_iff {s : State} :
    s.linkQuiet = true ↔
      ((s.own.state = .driving ∨ s.own.state = .releasing) ∧ (s.bus.link = .quiet ∨ s.bus.link = .waking))
      ∨ ((s.own.state = .shadow ∨ s.own.state = .granted) ∧ (s.mirror.link = .quiet ∨ s.mirror.link = .waking)) := by
  have rests : ∀ l : LinkState, l ≠ .active ↔ l = .quiet ∨ l = .waking := fun l => by cases l <;> simp
  unfold State.linkQuiet State.drives
  cases s.own.state <;> simp [rests]

/-! ### The walk (R47) -/

/-- The slots whose latch has readied a cue of a run. -/
def slotsOfRun (run : List Cue) : List (Fin 4) := run.filterMap (fun d => stageSlot d.record)

theorem mem_slotsOfRun {run : List Cue} {i : Fin 4} :
    i ∈ slotsOfRun run ↔ ∃ d ∈ run, d.record.kind = .stage ∧ d.record.slot = some i.val := by
  simp only [slotsOfRun, List.mem_filterMap, stageSlot_eq_some]

/-- Only the members of the used slots count. -/
theorem State.readyAt_congr (s : State) (b : Boundary) (first : Bool) {used other : List (Fin 4)}
    (same : ∀ i, i ∈ used ↔ i ∈ other) (c : Cue) : s.readyAt b first used c = s.readyAt b first other c := by
  cases kind : c.record.kind with
  | stage =>
    rw [Bool.eq_iff_iff, State.readyAt_stage kind, State.readyAt_stage kind]
    simp only [same]
  | _ => simp only [State.readyAt, kind]

theorem readyRun_prefix (s : State) (b : Boundary) (first : Bool) (used : List (Fin 4)) (l : List Cue) :
    s.readyRun b first used l <+: l := by
  induction l generalizing first used with
  | nil => exact List.prefix_refl _
  | cons c rest ih =>
    unfold State.readyRun
    split
    · exact (List.prefix_cons_inj c).mpr (ih _ _)
    · exact List.nil_prefix

/-- A run goes through its cues one by one. -/
theorem readyRun_cons (s : State) (b : Boundary) (first : Bool) (used : List (Fin 4)) (c : Cue) (rest : List Cue) :
    s.readyRun b first used (c :: rest) = if s.readyAt b first used c then
      c :: s.readyRun b false ((stageSlot c.record).toList ++ used) rest else [] := rfl

theorem mem_slots_append {e : Cue} {run : List Cue} {used : List (Fin 4)} {i : Fin 4} :
    i ∈ slotsOfRun run ++ ((stageSlot e.record).toList ++ used) ↔ i ∈ slotsOfRun (e :: run) ++ used := by
  cases h : stageSlot e.record <;> simp [slotsOfRun, h, or_left_comm]

/-- Each cue of a run is ready where it stands. -/
theorem readyAt_of_readyRun {s : State} {b : Boundary} {first : Bool} {used : List (Fin 4)} {l before after : List Cue}
    {c : Cue} (h : s.readyRun b first used l = before ++ c :: after) :
    s.readyAt b (first && decide (before = [])) (slotsOfRun before ++ used) c = true := by
  induction before generalizing l first used with
  | nil =>
    cases l with
    | nil => simp [State.readyRun] at h
    | cons d rest =>
      rw [readyRun_cons] at h
      split at h
      case isTrue ready =>
        obtain ⟨rfl, -⟩ := List.cons_eq_cons.mp h
        simpa [slotsOfRun] using ready
      case isFalse => simp at h
  | cons e before ih =>
    cases l with
    | nil => simp [State.readyRun] at h
    | cons d rest =>
      rw [readyRun_cons] at h
      split at h
      case isTrue =>
        obtain ⟨rfl, tail⟩ := List.cons_eq_cons.mp h
        have ready := ih tail
        rw [State.readyAt_congr s b _ (fun i => mem_slots_append)] at ready
        simpa using ready
      case isFalse => simp at h

/-- The first cue after a run is not ready there. -/
theorem not_readyAt_of_readyRun {s : State} {b : Boundary} {first : Bool} {used : List (Fin 4)}
    {l before after : List Cue} {c : Cue} (h : s.readyRun b first used l = before) (hl : l = before ++ c :: after) :
    s.readyAt b (first && decide (before = [])) (slotsOfRun before ++ used) c = false := by
  induction before generalizing l first used with
  | nil =>
    subst hl
    rw [List.nil_append, readyRun_cons] at h
    split at h
    case isTrue => simp at h
    case isFalse rests => simpa [slotsOfRun] using rests
  | cons e before ih =>
    subst hl
    rw [List.cons_append, readyRun_cons] at h
    split at h
    case isTrue =>
      have rests := ih (List.cons_eq_cons.mp h).2 rfl
      rw [State.readyAt_congr s b _ (fun i => mem_slots_append)] at rests
      simpa using rests
    case isFalse => simp at h

/-- A cue of the ready set, with the cues before it. -/
theorem readyAt_of_readySet {s : State} {b : Boundary} {before after : List Cue} {c : Cue}
    (h : s.readySet b = before ++ c :: after) : s.readyAt b (decide (before = [])) (slotsOfRun before) c = true := by
  have ready := readyAt_of_readyRun h
  rwa [Bool.true_and, List.append_nil] at ready

/-- Settles O23. -/
theorem readinessOfEachKind : Obligations.ReadinessOfEachKind := by
  unfold Obligations.ReadinessOfEachKind
  refine ⟨fun s b first used c => ?_, fun s => State.linkQuiet_iff, fun s => ?_, fun s b => ?_⟩
  · intro period lead grains
    exact ⟨fun kind => State.readyAt_manual kind b first used, fun kind => State.readyAt_timed kind b first used,
      fun kind => State.readyAt_follow kind b first used, fun kind => State.readyAt_stage kind b first used⟩
  · unfold State.fromPointer
    cases s.sched.next <;> rfl
  · refine ⟨readyRun_prefix s b true [] _, fun before after c used members => ⟨fun h => ?_, fun h walked => ?_⟩,
      fun c hc manual => ?_, fun c hc follow => ?_, ?_⟩
    · rw [State.readyAt_congr s b _ (fun i => (members i).trans mem_slotsOfRun.symm)]
      exact readyAt_of_readySet h
    · rw [State.readyAt_congr s b _ (fun i => (members i).trans mem_slotsOfRun.symm)]
      have rests := not_readyAt_of_readyRun h walked
      rwa [Bool.true_and, List.append_nil] at rests
    · obtain ⟨before, after, split⟩ := List.append_of_mem hc
      have ready := readyAt_of_readySet split
      rw [State.readyAt_manual manual] at ready
      cases ready
    · cases set : s.readySet b with
      | nil => simp [set] at hc
      | cons d rest =>
        rw [set] at hc
        obtain ⟨before, after, split⟩ := List.append_of_mem (show c ∈ rest from hc)
        have ready := readyAt_of_readySet (before := d :: before) (set.trans (congrArg (d :: ·) split))
        obtain ⟨first, -⟩ := (State.readyAt_follow follow _ _ _).mp ready
        simp at first
    · rw [List.pairwise_iff_forall_sublist]
      intro c d both stage stage' same
      obtain ⟨run, rest, split, hc, hd⟩ := List.cons_sublist_iff.mp both
      obtain ⟨middle, after, rest_eq⟩ := List.append_of_mem (List.singleton_sublist.mp hd)
      have ready := readyAt_of_readySet (before := run ++ middle) (after := after) (c := d)
        (by rw [split, rest_eq, List.append_assoc])
      obtain ⟨i, slot, -, unused⟩ := (State.readyAt_stage stage' _ _ _).mp ready
      exact unused (mem_slotsOfRun.mpr ⟨c, List.mem_append_left _ hc, stage, same.trans slot⟩)

/-! ### The choice (R49) -/

/-- Settles O24. -/
theorem choiceOfTheReadySet : Obligations.ChoiceOfTheReadySet := by
  unfold Obligations.ChoiceOfTheReadySet
  intro ready last
  refine ⟨rfl, fun plain => ?_, fun before after c split essential plain => ?_⟩
  · have none : ready.find? (fun c => c.record.essential) = none := by
      simpa [List.find?_eq_none] using plain
    simp only [choose, List.dropLast_concat, none, List.getLast?_concat]
  · have found : ready.find? (fun c => c.record.essential) = some c := by
      rw [split, List.find?_append, List.find?_eq_none.mpr (by simpa using plain), Option.none_or,
        List.find?_cons_of_pos (p := fun c : Cue => c.record.essential) essential]
    simp only [choose, List.dropLast_concat, found]

/-! ### The walk's firing (R42, R50, R51) -/

theorem State.dwellRun_iff {s : State} {n : Nat} (live : s.sched.live.cue = some n) (b : Boundary) :
    s.dwellRun b = true ↔
      (((s.cue? n).bind (fun c => c.record.dwellMs)).getD s.params.defaultDwell + b.periodMs - 1) / b.periodMs
        ≤ s.sched.dwell := by
  unfold State.dwellRun
  rw [live]
  refine decide_eq_true_iff.trans ?_
  cases hc : s.cue? n with
  | none => exact Iff.rfl
  | some c => cases hd : c.record.dwellMs <;> simp only [Option.bind_some, hd] <;> exact Iff.rfl

theorem State.evaluate_holds {s : State} {b : Boundary} {c : Cue} (hc : choose (s.readySet b) = some c)
    (early : s.dwellRun b = false) (uncut : c.record.cut = false) : s.evaluate b = s := by
  unfold State.evaluate
  simp only [hc, early, uncut, Bool.or_self, Bool.false_eq_true, if_false]

theorem takeWhile_before {before after : List Cue} {c : Cue}
    (h : ∀ d ∈ before, d.record.number < c.record.number) :
    (before ++ c :: after).takeWhile (fun d => decide (d.record.number < c.record.number)) = before := by
  rw [List.takeWhile_append_of_pos (by simpa using h), List.takeWhile_cons_of_neg (by simp), List.append_nil]

/-- Settles O25. -/
theorem walkFiresTheChosenCue : Obligations.WalkFiresTheChosenCue := by
  unfold Obligations.WalkFiresTheChosenCue
  intro s b
  refine ⟨fun empty => ?_, fun c hc => ⟨State.evaluate_holds hc, fun free before after trigger split less kind => ?_⟩,
    fun none => ?_, fun n live => State.dwellRun_iff live b⟩
  · simp only [State.evaluate, empty, choose, List.dropLast_nil, List.find?_nil, List.getLast?_nil]
  · intro skipped
    have may : (s.dwellRun b || c.record.cut) = true := by simpa using free
    have isTrigger : kindTrigger c.record.kind = trigger := by
      rcases kind with ⟨kind, rfl⟩ | ⟨kind, rfl⟩ | ⟨kind, rfl⟩ <;> rw [kind] <;> rfl
    have isSkipped : ((s.readySet b).takeWhile (fun d => decide (d.record.number < c.record.number))).foldl
        (State.skip b c.record.number (s.fullPositionAt (s.readingTime b))) s = skipped := by
      rw [split, takeWhile_before less]
      rfl
    have following : skipped.following c.record.number = s.following c.record.number := by
      have cues : skipped.cues = s.cues := by
        rw [← isSkipped]
        exact (Same.foldl _ (State.skip_same b _ _) _ s).cues (by decide)
      unfold State.following
      rw [cues]
    simp only [State.evaluate, hc, may, if_true, isSkipped, isTrigger, following]
  · simp only [State.dwellRun, none]

/-- Settles O26. -/
theorem dwellProtectsTheLiveCue : Obligations.DwellProtectsTheLiveCue := by
  unfold Obligations.DwellProtectsTheLiveCue
  intro s t b due live hdue noGo isLive found ms count early uncut step
  rw [execSchedulerBoundary_cons hdue, State.schedulerHandles] at step
  split at step
  · cases step
    exact ⟨rfl, rfl, rfl, rfl⟩
  · have raise := Scheduler.raise_eq s.sched
    have dwell : s.sched.raise.dwell = count := by rw [raise]
    have kept : s.sched.raise.mode = s.sched.mode ∧ s.sched.raise.pendingGo = none
        ∧ s.sched.raise.live = s.sched.live ∧ s.sched.raise.next = s.sched.next := by
      rw [raise]
      exact ⟨rfl, noGo, rfl, rfl⟩
    obtain ⟨mode, pendingGo, liveCue, next⟩ := kept
    have unchanged : State.afterRaise { s with
        bus := { s.bus with schedulerDue := due }, sched := s.sched.raise } b
        = { s with bus := { s.bus with schedulerDue := due }, sched := s.sched.raise } := by
      by_cases flying : Flying s
      · exact State.afterRaise_rests (s := { s with
          bus := { s.bus with schedulerDue := due }, sched := s.sched.raise }) (.inl flying) b
      · cases hm : s.sched.mode with
        | idle => exact State.afterRaise_rests (.inr (.inl (mode.trans hm))) b
        | held => exact State.afterRaise_rests (.inr (.inr ⟨mode.trans hm, pendingGo⟩)) b
        | running =>
          rw [State.afterRaise_running (s := { s with
            bus := { s.bus with schedulerDue := due }, sched := s.sched.raise }) flying (mode.trans hm) pendingGo]
          generalize hu : { s with bus := { s.bus with schedulerDue := due }, sched := s.sched.raise } = u
          have cues : u.cues = s.cues := by rw [← hu]
          have notRun : u.dwellRun b = false := by
            have live : u.sched.live.cue = some live.record.number := by
              rw [← hu]
              exact (congrArg LiveRecord.cue liveCue).trans isLive
            rw [Bool.eq_false_iff, Ne, State.dwellRun_iff live b, ← hu]
            change ¬ ((((s.cue? _).bind (fun c => c.record.dwellMs)).getD s.params.defaultDwell + _ - 1) / _
              ≤ s.sched.raise.dwell)
            rw [found, dwell, not_le]
            exact early
          cases chosen : choose (u.readySet b) with
          | none => simp only [State.evaluate, chosen]
          | some c =>
            refine State.evaluate_holds chosen notRun (uncut c ?_)
            rw [← cues]
            exact u.readySet_subset b c (mem_of_choose chosen)
    rw [unchanged] at step
    cases step
    exact ⟨rfl, next, rfl, rfl⟩

/-! ### The commit report (R58) -/

/-- Settles O27. -/
theorem commitReportMakesTheCueLive : Obligations.CommitReportMakesTheCueLive := by
  unfold Obligations.CommitReportMakesTheCueLive
  intro s r later hr before pushed
  have taken : exec .commitReport s = .next (State.takeReport { s with reports := later } r) := by
    simp only [exec, execCommitReport, hr]
  have follow : (if (decide (s.sched.mode ≠ .idle) && s.namesFollow s.sched.next && s.sched.follow.isNone) = true then
        some { count := 0, fresh := before } else s.sched.follow)
      = if s.sched.mode ≠ SchedMode.idle ∧ s.namesFollow s.sched.next = true ∧ s.sched.follow = none then
          some { count := 0, fresh := before } else s.sched.follow :=
    if_congr (by simp [and_assoc]) rfl rfl
  rw [taken, State.takeReport, ← follow]
  rfl

end Sys2Proof.Machine
end

section
/-!
Page store and screens (04): the stored pages, the screen map, the override edits and the layout.
-/

namespace Sys2Proof.Machine

set_option Elab.async false

/-! ### The page store (R65 to R68) -/

theorem formPage_good {p : Page} {body : List Byte} (h : parsePage body = some p) : formPage p body = .good := by
  simp [formPage, h]

theorem pageIdOk_iff {id : Nat} : pageIdOk id = true ↔ 1 ≤ id ∧ id ≤ 4095 := by
  unfold pageIdOk
  rw [Bool.and_eq_true, decide_eq_true_iff, decide_eq_true_iff]
  rfl

theorem pageOk_iff {p : Page} : pageOk p = true ↔ PageInRange p := by
  have codes : (p.lines.all fun l => decide (l.length ≤ 96) && l.all (fun g => decide (0x20 ≤ g.toNat))) = true
      ↔ ∀ l ∈ p.lines, l.length ≤ 96 ∧ ∀ g ∈ l, 0x20 ≤ g.toNat := by
    simp only [List.all_eq_true, Bool.and_eq_true, decide_eq_true_eq]
  unfold pageOk
  simp only [Bool.and_eq_true, codes, pageIdOk_iff, decide_eq_true_eq]
  constructor
  · rintro ⟨⟨⟨⟨id, lane⟩, least⟩, most⟩, codes⟩
    exact ⟨id, lane, ⟨least, most⟩, codes⟩
  · rintro ⟨id, lane, ⟨least, most⟩, codes⟩
    exact ⟨⟨⟨⟨id, lane⟩, least⟩, most⟩, codes⟩

theorem State.pageInUse_iff {s : State} {id : Nat} : s.pageInUse id = true ↔ PageInUse s id := by
  have one : ∀ c : Screen, ((c.live.found && c.live.source.page? == some id)
      || (match c.pendingShown with | some sh => sh.found && sh.source.page? == some id | none => false)) = true
      ↔ ∃ shown : Shown, (c.live = shown ∨ c.pendingShown = some shown) ∧ shown.found = true
        ∧ shown.source.page? = some id := by
    intro c
    rw [Bool.or_eq_true, Bool.and_eq_true, beq_iff_eq]
    cases c.pendingShown with
    | none => simp
    | some sh => simp [or_and_right, exists_or]
  unfold State.pageInUse
  rw [List.any_eq_true]
  exact ⟨fun ⟨i, _, h⟩ => ⟨i, (one _).mp h⟩, fun ⟨i, h⟩ => ⟨i, mem_fourNumbers i, (one _).mpr h⟩⟩

theorem page?_isSome (s : State) (id : Nat) : (s.page? id).isSome = true ↔ ∃ p ∈ s.pages, p.id = id := by
  simp [State.page?, List.find?_isSome]

theorem page?_isNone (s : State) (id : Nat) : (s.page? id).isNone = true ↔ ¬ ∃ p ∈ s.pages, p.id = id := by
  rw [← page?_isSome]
  cases s.page? id <;> simp

/-- Settles O28. -/
theorem pagesAreLoadedAndDeleted : Obligations.PagesAreLoadedAndDeleted := by
  unfold Obligations.PagesAreLoadedAndDeleted
  constructor
  · intro s p body rest h parsed ok went refused glyphs held pages
    have taken : exec (.loadPage p) s = .next (answered kLoadPage (went.loadPageRequest p)) :=
      congrArg _ (h.answered (formPage_good parsed) _)
    have holds : (went.page? p.id).isSome = true ↔ held := page?_isSome went p.id
    have stored : insertPage p s.pages = pages := insertPage_eq p s.pages ok.rising
    have use : poolUse s.pages - went.glyphsOf p.id + pageGlyphs p = glyphs pages := by
      rw [← stored]
      exact (State.poolUse_insertPage_of_room (s := went) ok.rising p).symm
    have free : ¬ (held ∧ PageInUse s p.id) → ¬ ((went.page? p.id).isSome && went.pageInUse p.id) = true := by
      rw [Bool.and_eq_true, holds, State.pageInUse_iff]
      exact id
    rw [taken, State.loadPageRequest]
    refine ⟨fun out => ?_, fun ranges hh used => ?_, fun ranges none full => ?_, fun ranges none room => ?_⟩
    · rw [if_pos (by simpa using mt pageOk_iff.mp out), answered_refuse]
    · rw [if_neg (by simpa [pageOk_iff] using ranges), if_pos, answered_refuse]
      rw [Bool.and_eq_true, holds, State.pageInUse_iff]
      exact ⟨hh, used⟩
    · rw [if_neg (by simpa [pageOk_iff] using ranges), if_neg (free none), if_pos (use ▸ full), answered_refuse]
    · rw [if_neg (by simpa [pageOk_iff] using ranges), if_neg (free none), if_neg (use ▸ not_lt.mpr room)]
      refine ⟨(went.page? p.id).isNone, page?_isNone went p.id, ?_⟩
      rw [← stored, answered_taken _ _ _ (.inl rfl)]
      rfl
  · intro s id body rest h went refused held left
    have taken : exec (.deletePage id) s = .next (answered kDeletePage (went.deletePageRequest id)) :=
      congrArg _ (h.answered (form := formFree) rfl _)
    have inRange : 1 ≤ id → id ≤ 4095 → ¬ (!pageIdOk id) = true := fun least most => by
      simpa [pageIdOk_iff] using And.intro least most
    have lacks : (went.page? id).isNone = true ↔ ¬ held := page?_isNone went id
    rw [taken, State.deletePageRequest]
    refine ⟨fun out => ?_, fun least most none => ?_, fun least most hh used => ?_, fun least most hh free => ?_⟩
    · rw [if_pos, answered_refuse]
      rw [Bool.not_eq_true', ← Bool.not_eq_true, pageIdOk_iff]
      omega
    · rw [if_neg (inRange least most), if_pos (lacks.mpr none), answered_refuse]
    · rw [if_neg (inRange least most), if_neg (fun none => lacks.mp none hh), 
        if_pos (State.pageInUse_iff (s := went) |>.mpr used), answered_refuse]
    · rw [if_neg (inRange least most), if_neg (fun none => lacks.mp none hh), 
        if_neg (mt (State.pageInUse_iff (s := went)).mp free)]
      have same : s.pages.filter (fun q => q.id != id) = left :=
        List.filter_congr fun q _ => (decide_not ..).symm
      rw [← same, answered_taken _ _ _ (.inl rfl)]
      rfl

/-! ### The screen map (R69, R70, R103) -/

theorem setupOk_iff {u : ScreenSetup} : setupOk u = true ↔ SetupInRange u := by
  refine ⟨setupInRange_of_setupOk, fun h => ?_⟩
  obtain ⟨lane, ⟨least, most⟩, addresses, distinct, low, high⟩ := h
  simp only [setupOk, Bool.and_eq_true, decide_eq_true_eq, List.all_eq_true]
  exact ⟨⟨⟨⟨⟨⟨lane, least⟩, most⟩, addresses⟩, distinct⟩, low⟩, high⟩

theorem State.tileTaken_iff {s : State} {i : Fin 4} {u : ScreenSetup} :
    s.tileTaken i u = true ↔ ∃ j, j ≠ i ∧ ∃ a ∈ u.tiles, a ∈ (s.screens.get j).tiles := by
  simp only [State.tileTaken, List.any_eq_true, Bool.and_eq_true, bne_iff_ne, List.contains_iff_mem]
  exact ⟨fun ⟨a, ha, j, _, other, taken⟩ => ⟨j, other, a, ha, taken⟩,
    fun ⟨j, other, a, ha, taken⟩ => ⟨a, ha, j, mem_fourNumbers j, other, taken⟩⟩

theorem State.setupTaken_iff {s : State} {i : Fin 4} {setup : Option ScreenSetup} :
    s.setupTaken i setup = true
      ↔ ∀ u ∈ setup, SetupInRange u ∧ ∀ j, j ≠ i → ∀ a ∈ u.tiles, a ∉ (s.screens.get j).tiles := by
  cases setup with
  | none => simp [State.setupTaken]
  | some u =>
    have free : s.tileTaken i u = false ↔ ∀ j, j ≠ i → ∀ a ∈ u.tiles, a ∉ (s.screens.get j).tiles := by
      rw [← Bool.not_eq_true, State.tileTaken_iff]
      push Not
      rfl
    simp [State.setupTaken, setupOk_iff, free]

/-- R70: a screen set afresh takes its source from the live cue record. -/
theorem State.freshScreen_eq (s : State) (c : Screen) (setup : Option ScreenSetup) :
    s.freshScreen c setup = { c with
      setup := setup
      cueSource := match setup, s.sched.live.cue with
        | none, _ => .blank none
        | some _, none => .blank none
        | some u, some m =>
          match (s.cue? m).bind (fun d => d.record.pages.find? (fun r => r.lane == u.lane)) with
          | some r => .page m r.page
          | none => .blank (some m)
      override := none, live := { source := .blank none, found := false }, pendingShown := none, liveTag := 0
      edit := none, initialBlank := setup.isSome, kept := [] } := by
  unfold State.freshScreen State.liveSource cueSourceOf
  cases setup with
  | none => rfl
  | some u =>
    cases s.sched.live.cue with
    | none => rfl
    | some m =>
      cases found : s.cue? m with
      | none => simp only [found, Option.bind_none]
      | some d =>
        have number : d.record.number = m := (cue?_mem found).2
        cases hr : d.record.pages.find? (fun r => r.lane == u.lane) <;> simp only [found, Option.bind_some, number, hr]

/-- Settles O29. -/
theorem setScreenStartsAfresh : Obligations.SetScreenStartsAfresh := by
  unfold Obligations.SetScreenStartsAfresh
  intro s n setup body rest h went refused
  have taken : exec (.setScreen n setup) s = .next (answered kSetScreen (went.setScreenRequest n setup)) :=
    congrArg _ (h.answered (form := formFree) rfl _)
  have flies : went.flight = true ↔ Flying s := State.flight_iff (s := went)
  rw [taken, State.setScreenRequest]
  refine ⟨fun runs => ?_, fun idle flying => ?_, fun idle quiet out => ?_, fun idle quiet i number => ?_⟩
  · rw [if_pos (show went.sched.mode ≠ .idle from runs), answered_refuse]
  · rw [if_neg (not_not.mpr (show went.sched.mode = .idle from idle)), if_pos (flies.mpr flying), answered_refuse]
  all_goals rw [if_neg (not_not.mpr (show went.sched.mode = .idle from idle)), if_neg (mt flies.mp quiet)]
  · have none : fourth? n = none := dif_neg (by omega)
    rw [none]
    exact congrArg _ (answered_refuse ..)
  · rw [fourth?_eq_some.mpr number]
    have checks : went.setupTaken i setup = true
        ↔ ∀ u ∈ setup, SetupInRange u ∧ ∀ j, j ≠ i → ∀ a ∈ u.tiles, a ∉ (s.screens.get j).tiles :=
      State.setupTaken_iff (s := went)
    refine ⟨fun bad => ?_, fun good => ?_⟩
    · simp only
      rw [if_neg, answered_refuse]
      rw [checks]
      obtain ⟨u, hu, bad⟩ := bad
      intro good
      obtain ⟨range, free⟩ := good u hu
      rcases bad with out | ⟨j, other, a, ha, taken⟩
      · exact out range
      · exact free j other a ha taken
    · intro old touched cueSource fresh set
      simp only
      rw [if_pos (checks.mpr good), answered_taken _ _ _ (.inl rfl)]
      have isFresh : went.freshScreen old setup = fresh := went.freshScreen_eq old setup
      have isTouched : s.bus.tiles.map (fun t => if touched.contains t.address then t.assigned else t)
          = set.bus.tiles :=
        List.map_congr_left fun t _ => if_congr List.contains_iff_mem rfl rfl
      change Host.Outcome.next ((State.composeWork { went with
        screens := s.screens.set i (went.freshScreen old setup)
        bus := { s.bus with
          tiles := s.bus.tiles.map (fun t => if touched.contains t.address then t.assigned else t) } }).withReply
            kSetScreen .ok .empty) = _
      rw [isFresh, isTouched]

/-! ### Layout (R73, R74) -/

theorem length_layLine (width : Nat) (line : List Glyph) : (layLine width line).length = width := by
  unfold layLine
  split
  · simp only [List.length_append, List.length_replicate]
    omega
  · rw [List.length_take]
    omega

/-- R73: a line that fits is centred, the odd column on the right. -/
theorem layLine_centred {width : Nat} {line : List Glyph} (fits : line.length ≤ width) :
    ∃ left right, layLine width line = List.replicate left space ++ line ++ List.replicate right space
      ∧ (right = left ∨ right = left + 1) := by
  unfold layLine
  rw [if_pos fits]
  exact ⟨_, _, rfl, by omega⟩

theorem layLine_clipped {width : Nat} {line : List Glyph} (long : width < line.length) :
    layLine width line <+: line := by
  unfold layLine
  rw [if_neg (by omega)]
  exact List.take_prefix _ _

theorem getElem?_layPage (width : Nat) (p : Page) {row : Nat} (h : row < 3) :
    (layPage width p)[row]? = some (layLine width (p.lines.getD row [])) := by
  unfold layPage
  interval_cases row <;> rfl

/-- Chunks of one length, one after the other: the element of a chunk at a column. -/
theorem getElem?_flatMap_of_length {α β : Type} (f : α → List β) {cpt : Nat} (l : List α)
    (h : ∀ a ∈ l, (f a).length = cpt) {row column : Nat} (hc : column < cpt) :
    (l.flatMap f)[row * cpt + column]? = (l[row]?).bind (fun a => (f a)[column]?) := by
  induction l generalizing row with
  | nil => simp
  | cons a rest ih =>
    have first := h a (List.mem_cons_self ..)
    rw [List.flatMap_cons]
    cases row with
    | zero => rw [List.getElem?_append_left (by omega)]; simp
    | succ row =>
      rw [List.getElem?_append_right (by rw [first, Nat.succ_mul]; omega), first, List.getElem?_cons_succ,
        ← ih (fun b hb => h b (List.mem_cons_of_mem _ hb))]
      congr 1
      rw [Nat.succ_mul]
      omega

theorem length_column {cpt k tiles : Nat} (hk : k < tiles) {line : List Glyph} (h : line.length = tiles * cpt) :
    ((line.drop (k * cpt)).take cpt).length = cpt := by
  have : (k + 1) * cpt ≤ tiles * cpt := Nat.mul_le_mul_right _ hk
  rw [Nat.succ_mul] at this
  rw [List.length_take, List.length_drop]
  omega

theorem length_of_mem_layPage {width : Nat} {p : Page} {line : List Glyph} (h : line ∈ layPage width p) :
    line.length = width := by
  simp only [layPage, List.mem_cons, List.not_mem_nil, or_false] at h
  rcases h with rfl | rfl | rfl <;> exact length_layLine ..

theorem segmentsOf_getElem? {u : ScreenSetup} (p : Page) {k tile : Nat} (h : u.tiles[k]? = some tile) :
    (segmentsOf u p)[k]? = some { tile := tile, codes := segmentCodes u.cpt k (layPage (screenWidth u) p) } := by
  unfold segmentsOf
  rw [List.getElem?_map, List.getElem?_zipIdx, h]
  simp

/-- Settles O32. -/
theorem layoutFillsTheTiles : Obligations.LayoutFillsTheTiles := by
  unfold Obligations.LayoutFillsTheTiles
  refine ⟨fun width line => ⟨length_layLine width line, layLine_centred, layLine_clipped⟩,
    fun u p k tile h => ⟨_, segmentsOf_getElem? p h, rfl, ?_, fun row column hr hc => ?_⟩⟩
  all_goals
    have chunk : ∀ line ∈ layPage (screenWidth u) p, ((line.drop (k * u.cpt)).take u.cpt).length = u.cpt :=
      fun line hl => length_column (List.getElem?_eq_some_iff.mp h).1 (length_of_mem_layPage hl)
  · unfold segmentCodes
    rw [List.length_flatMap, List.map_congr_left chunk]
    simp only [layPage, List.map_cons, List.map_nil, List.sum_cons, List.sum_nil]
    omega
  · unfold segmentCodes
    rw [getElem?_flatMap_of_length _ _ chunk hc, getElem?_layPage _ _ hr, Option.bind_some, List.getElem?_take_of_lt hc,
      List.getElem?_drop]
    rfl

end Sys2Proof.Machine
end

section
/-!
The composer (04, 06): content tags, what a build gives each screen, override edits, blackout and lift.
-/

namespace Sys2Proof.Machine

set_option Elab.async false

/-! ### Hand-over (R95, R101) -/

theorem Screen.handed_eq (c : Screen) (e : Option Entry) :
    c.handed e = { c with
      pendingShown := e.map (fun e => e.shown)
      tagCounter := match e.map (fun e => e.instr) with
        | some (ScreenInstr.swap tag) => tag
        | _ => c.tagCounter } := by
  cases e with
  | none => rfl
  | some e => cases h : e.instr <;> simp only [Screen.handed, Option.map_some, h]

/-- R101 and log 40: the controller after a hand-over; a content frame under way stops, another frame goes on. -/
theorem PanelBus.handOver_eq (b : PanelBus) :
    { b.dropTransfer with interval := b.dropTransfer.interval.map Interval.fresh } =
      let transfer : Bool := match b.window with
        | some w => decide (w.frame = SlotFrame.first ∨ w.frame = SlotFrame.retry)
        | none => false
      { b with
        window := if transfer then none else b.window
        interval := b.interval.map (fun iv => { iv with
          attempted := [], failed := [], retried := []
          busy := if transfer then min iv.busy iv.next else iv.busy }) } := by
  unfold PanelBus.dropTransfer
  cases hw : b.window with
  | none =>
    simp only [hw]
    rfl
  | some w => cases hf : w.frame <;> cases hi : b.interval <;> simp [hf, hw, hi, Interval.fresh]

theorem State.handOver_eq (s : State) (c : Change) {entry : Fin 4 → Option Entry}
    (he : ∀ i, entryOf c.entries i = entry i) :
    s.handOver c =
      let transfer : Bool := match s.bus.window with
        | some w => decide (w.frame = SlotFrame.first ∨ w.frame = SlotFrame.retry)
        | none => false
      { s with
        screens := s.screens.mapIdx (fun i screen => { screen with
          pendingShown := (entry i).map (fun e => e.shown)
          tagCounter := match (entry i).map (fun e => e.instr) with
            | some (ScreenInstr.swap tag) => tag
            | _ => screen.tagCounter })
        change := some { c with
          required := s.requiredFor c.entries, acked := [], markCount := 0
          whole := match s.bus.interval with
            | some iv => decide ((s.showClock - iv.start).toNat < 1000)
            | none => false }
        bus := { s.bus with
          window := if transfer then none else s.bus.window
          interval := s.bus.interval.map (fun iv => { iv with
            attempted := [], failed := [], retried := []
            busy := if transfer then min iv.busy iv.next else iv.busy }) } } := by
  have screens : (fun i screen => Screen.handed screen (entryOf c.entries i))
      = fun i (screen : Screen) => { screen with
          pendingShown := (entry i).map (fun e => e.shown)
          tagCounter := match (entry i).map (fun e => e.instr) with
            | some (ScreenInstr.swap tag) => tag
            | _ => screen.tagCounter } :=
    funext fun i => funext fun screen => by rw [he, Screen.handed_eq]
  have bus := s.bus.handOver_eq
  simp only at bus
  unfold State.handOver State.updScreens
  simp only [screens, bus]
  rfl

theorem find?_filterMap_screen {f : Fin 4 → Option Entry} (hf : ∀ i e, f i = some e → e.screen = i) (i : Fin 4)
    (l : List (Fin 4)) : (l.filterMap f).find? (fun e => e.screen == i) = if i ∈ l then f i else none := by
  induction l with
  | nil => rfl
  | cons j rest ih =>
    by_cases same : j = i
    · subst same
      cases hj : f j with
      | none => rw [List.filterMap_cons_none hj, ih, hj]; simp
      | some e =>
        have screen := hf j e hj
        rw [List.filterMap_cons_some hj, List.find?_cons_of_pos (by simpa using screen)]
        simp
    · have only : (i ∈ j :: rest) ↔ i ∈ rest := by simp [Ne.symm same]
      rw [if_congr only rfl rfl, ← ih]
      cases hj : f j with
      | none => rw [List.filterMap_cons_none hj]
      | some e =>
        have screen := hf j e hj
        rw [List.filterMap_cons_some hj, List.find?_cons_of_neg (by simpa [screen] using same)]

theorem entryOf_filterMap {f : Fin 4 → Option Entry} (hf : ∀ i e, f i = some e → e.screen = i) (i : Fin 4) :
    entryOf (fourNumbers.filterMap f) i = f i := by
  unfold entryOf
  rw [find?_filterMap_screen hf, if_pos (mem_fourNumbers i)]

/-! ### Content tags (R72) -/

theorem bumpTag_range (n : Nat) : 1 ≤ bumpTag n ∧ bumpTag n ≤ 255 := by
  unfold bumpTag
  split <;> omega

theorem iterate_bumpTag {n : Nat} (low : 1 ≤ n) (high : n ≤ 255) (k : Nat) :
    bumpTag^[k] n = (n - 1 + k) % 255 + 1 := by
  induction k with
  | zero => simp; omega
  | succ k ih =>
    rw [Function.iterate_succ_apply', ih]
    unfold bumpTag
    split <;> omega

/-- The 255 tags after a counter are all different. -/
theorem iterate_bumpTag_injective (n : Nat) {j k : Nat} (hj : j < 255) (hk : k < 255)
    (h : bumpTag^[j + 1] n = bumpTag^[k + 1] n) : j = k := by
  obtain ⟨low, high⟩ := bumpTag_range n
  rw [Function.iterate_succ_apply, Function.iterate_succ_apply, iterate_bumpTag low high,
    iterate_bumpTag low high] at h
  omega

/-- The tag issued is the first one after the counter that is none of those to avoid, within the fuel. -/
theorem issueTag_first (avoid : List Nat) (fuel n : Nat) :
    ∃ k ≤ fuel, issueTag avoid fuel n = bumpTag^[k + 1] n ∧ (k < fuel → bumpTag^[k + 1] n ∉ avoid)
      ∧ ∀ j < k, bumpTag^[j + 1] n ∈ avoid := by
  induction fuel generalizing n with
  | zero => exact ⟨0, le_refl 0, rfl, fun h => absurd h (by omega), fun j h => absurd h (by omega)⟩
  | succ fuel ih =>
    unfold issueTag
    split
    case isTrue used =>
      obtain ⟨k, le, eq, free, before⟩ := ih (bumpTag n)
      refine ⟨k + 1, by omega, eq, fun h => free (by omega), fun j hj => ?_⟩
      cases j with
      | zero => simpa using used
      | succ j => exact before j (by omega)
    case isFalse free =>
      exact ⟨0, by omega, rfl, fun _ => by simpa using free, fun j h => absurd h (by omega)⟩

/-- With at most 254 tags to avoid, one of the next 255 is free. -/
theorem exists_free_tag (avoid : List Nat) (few : avoid.length ≤ 254) (n : Nat) :
    ∃ k < 255, bumpTag^[k + 1] n ∉ avoid := by
  by_contra none
  push Not at none
  have inside : (Finset.range 255).image (fun k => bumpTag^[k + 1] n) ⊆ avoid.toFinset := by
    intro t ht
    obtain ⟨k, hk, rfl⟩ := Finset.mem_image.mp ht
    exact List.mem_toFinset.mpr (none k (Finset.mem_range.mp hk))
  have many : ((Finset.range 255).image (fun k => bumpTag^[k + 1] n)).card = 255 := by
    rw [Finset.card_image_of_injOn, Finset.card_range]
    intro j hj k hk same
    exact iterate_bumpTag_injective n (Finset.mem_range.mp hj) (Finset.mem_range.mp hk) same
  have := Finset.card_le_card inside
  have := List.toFinset_card_le avoid
  omega

/-- R72: the new tag is the first after the counter that is free. -/
theorem issueTag_free {avoid : List Nat} (few : avoid.length ≤ 254) (n : Nat) :
    issueTag avoid 255 n ∉ avoid ∧ ∃ k, issueTag avoid 255 n = bumpTag^[k + 1] n
      ∧ ∀ j < k, bumpTag^[j + 1] n ∈ avoid := by
  obtain ⟨k, le, eq, free, before⟩ := issueTag_first avoid 255 n
  obtain ⟨m, hm, unused⟩ := exists_free_tag avoid few n
  have less : k ≤ m := by
    by_contra more
    exact unused (before m (by omega))
  exact ⟨eq ▸ free (by omega), k, eq, before⟩

/-! ### Building a change (R77) -/

/-- R71: what a screen should show. -/
theorem targetSource_eq (dark : Bool) (override : Option Nat) (cueSource : CueSource) :
    targetSource dark override cueSource =
      if dark then .dark
      else match override with
      | some p => .override p
      | none => match cueSource with
        | .page n p => .cue n p
        | .blank n => .blank n := by
  unfold targetSource
  cases cueSource <;> rfl

theorem State.page?_finds (s : State) (lane id : Nat) :
    ((s.page? id).filter (fun p => p.lane == lane)).isSome = s.finds lane id := by
  unfold State.finds
  cases s.page? id with
  | none => rfl
  | some p => cases h : p.lane == lane <;> simp [h]

/-- R71: the page a source finds for a lane. -/
def State.foundPage (s : State) (lane : Nat) (source : Source) : Option Page :=
  match source.page? with
  | some id => (s.page? id).filter (fun p => p.lane == lane)
  | none => none

theorem State.foundPage_eq_some {s : State} {lane : Nat} {source : Source} {p : Page}
    (h : s.foundPage lane source = some p) : ∃ id, source.page? = some id ∧ s.page? id = some p := by
  unfold State.foundPage at h
  cases hs : source.page? with
  | none => simp [hs] at h
  | some id =>
    simp only [hs] at h
    exact ⟨id, rfl, (Option.filter_eq_some_iff.mp h).1⟩

theorem State.lookUp_eq (s : State) (lane : Nat) (source : Source) :
    s.lookUp lane source = { source := source, found := (s.foundPage lane source).isSome } := by
  unfold State.lookUp State.foundPage
  cases source.page? with
  | none => rfl
  | some id => simp only [State.page?_finds]

theorem showsBlank_iff {c : Screen} : c.showsBlank = true ↔ ShowsBlank c := by
  simp [Screen.showsBlank, ShowsBlank]

/-- R71: what it is for a target to show the same text as the screen does. -/
theorem State.sameText_iff (s : State) (lane : Nat) (source : Source) (c : Screen) :
    sameText (s.lookUp lane source) c = true ↔
      (s.foundPage lane source = none ∧ ShowsBlank c)
        ∨ (s.foundPage lane source ≠ none ∧ c.live.found = true ∧ source.page? = c.live.source.page?) := by
  rw [s.lookUp_eq]
  unfold sameText Shown.blank
  rw [Bool.or_eq_true, Bool.and_eq_true, showsBlank_iff]
  cases found : s.foundPage lane source with
  | none => simp
  | some p =>
    obtain ⟨id, names, -⟩ := State.foundPage_eq_some found
    simp [names]

/-- R77 step 4: SWAP with a new tag where the page is found, else BLANK. -/
theorem State.transfer_eq (s : State) (i : Fin 4) (u : ScreenSetup) (source : Source) :
    s.transfer i u (s.lookUp u.lane source) =
      match s.foundPage u.lane source with
      | some p => { screen := i, shown := { source := source, found := (s.foundPage u.lane source).isSome }
                    instr := .swap (s.newTag (s.screens.get i)), segments := segmentsOf u p }
      | none => { screen := i, shown := { source := source, found := (s.foundPage u.lane source).isSome }
                  instr := .blank, segments := [] } := by
  rw [s.lookUp_eq]
  unfold State.transfer Shown.blank
  cases found : s.foundPage u.lane source with
  | none => simp
  | some p =>
    obtain ⟨id, names, stored⟩ := State.foundPage_eq_some found
    simp [names, stored]

/-- R77 step 4: the entry of an enabled screen. -/
theorem State.entryFor_eq (s : State) (i : Fin 4) (u : ScreenSetup) (source : Source) :
    s.entryFor i u (s.lookUp u.lane source) =
      if (s.screens.get i).initialBlank then
        some { screen := i, shown := { source := .blank none, found := false }, instr := .blank, segments := [] }
      else if (s.screens.get i).reissue = true
          ∨ ¬ ((s.foundPage u.lane source = none ∧ ShowsBlank (s.screens.get i))
            ∨ (s.foundPage u.lane source ≠ none ∧ (s.screens.get i).live.found = true
              ∧ source.page? = (s.screens.get i).live.source.page?)) then
        some (s.transfer i u (s.lookUp u.lane source))
      else if source ≠ (s.screens.get i).live.source then
        some { screen := i, shown := { source := source, found := (s.foundPage u.lane source).isSome }, instr := .none
               segments := [] }
      else none := by
  unfold State.entryFor
  refine if_congr Iff.rfl rfl (if_congr ?_ rfl ?_)
  · rw [Bool.or_eq_true, Bool.not_eq_true', ← Bool.not_eq_true, s.sameText_iff]
  · rw [s.lookUp_eq]

theorem State.entryFor_screen {s : State} {i : Fin 4} {u : ScreenSetup} {target : Shown} {e : Entry}
    (h : s.entryFor i u target = some e) : e.screen = i := by
  simp only [State.entryFor, State.transfer] at h
  split at h
  · cases h
    rfl
  split at h
  · obtain rfl := Option.some.inj h
    split <;> rfl
  split at h
  · cases h
    rfl
  · cases h

/-- R77 steps 1 and 2: the cue source and override a screen takes. -/
theorem State.takeFor_eq (s : State) (firing : Option Firing) (carried : List Take) (i : Fin 4) (u : ScreenSetup) :
    s.takeFor firing carried i u =
      let base : Take := (carried.find? (fun t => t.screen == i)).getD
        { screen := i, cueSource := (s.screens.get i).cueSource, override := (s.screens.get i).override }
      { screen := i
        cueSource := match firing with
          | some f => (match f.record.pages.find? (fun r => r.lane == u.lane) with
            | some r => .page f.record.number r.page
            | none => .blank (some f.record.number))
          | none => base.cueSource
        override := match (s.screens.get i).edit with
          | some (.set p) => if s.groupHold then base.override else some p
          | some .clear => if s.groupHold then base.override else none
          | none => base.override } := by
  simp only [State.takeFor, cueSourceOf]
  cases carried.find? (fun t => t.screen == i) <;> cases (s.screens.get i).edit with
  | none => cases s.groupHold <;> rfl
  | some e => cases e <;> cases s.groupHold <;> rfl

theorem State.requiredFor_spendWork (s : State) (entries : List Entry) :
    s.spendWork.requiredFor entries = s.requiredFor entries := by
  unfold State.requiredFor State.spendWork
  simp only [State.updScreens_screens, Four.get_mapIdx]
  rfl

/-- A build, from what it works out for the screens. -/
theorem State.build_eq (s : State) (firing : Option Firing) (carried : List Take) (takeover : Bool) {takes : List Take}
    {entries : List Entry} (ht : (fourNumbers.filterMap (s.plan firing carried)).map (fun p => p.1) = takes)
    (he : (fourNumbers.filterMap (s.plan firing carried)).filterMap (fun p => p.2) = entries) :
    s.build firing carried takeover =
      if firing.isNone && entries.isEmpty && (takeover || !takes.any s.changesTake) then s.spendWork else
      s.spendWork.handOver
        { firing := firing, takes := takes, entries := entries
          clipped := match firing with | some f => s.clippedLanes f.record | none => []
          missing := match firing with | some f => s.missingLanes f.record | none => []
          blackout := false, builtDark := s.sched.blackout
          initialBlanks := s.enabled.filter (fun i => (s.screens.get i).initialBlank)
          required := [], acked := [], markCount := 0, whole := false } := by
  subst ht he
  rfl

theorem State.any_enabled (s : State) {p : Fin 4 → Bool} {g : ScreenSetup → Bool}
    (h : ∀ i u, (s.screens.get i).setup = some u → p i = g u) :
    s.enabled.any p = fourNumbers.any (fun i => (s.screens.get i).setup.any g) := by
  rw [State.enabled, List.any_filter]
  refine congrArg (List.any fourNumbers) (funext fun i => ?_)
  cases hs : (s.screens.get i).setup with
  | none => rfl
  | some u => simp [h i u hs]

/-- R77, log 16: the lanes whose page is missing, judged for the lanes an enabled screen shows. -/
theorem State.missingLanes_eq (s : State) (record : CueRecord) :
    s.missingLanes record = (record.pages.filter (fun r =>
      ((s.page? r.page).filter (fun p => p.lane == r.lane)).isNone
        && fourNumbers.any (fun i => (s.screens.get i).setup.any (fun u => u.lane == r.lane && true)))).map
        (fun r => r.lane) := by
  unfold State.missingLanes
  refine congrArg (List.map _) (List.filter_congr fun r _ => ?_)
  rw [← State.page?_finds, Option.not_isSome]
  refine congrArg (Bool.and _) (s.any_enabled fun i u hu => ?_)
  simp only [hu, Bool.and_true]

/-- R77, logs 16 and 65: the lanes with a line that is clipped on an enabled screen of the lane. -/
theorem State.clippedLanes_eq (s : State) (record : CueRecord) :
    s.clippedLanes record = (record.pages.filter (fun r =>
      ((s.page? r.page).filter (fun p => p.lane == r.lane)).any (fun p =>
        fourNumbers.any (fun i => (s.screens.get i).setup.any (fun u => u.lane == r.lane
          && p.lines.any (fun l => decide (u.tiles.length * u.cpt < l.length))))))).map (fun r => r.lane) := by
  unfold State.clippedLanes
  refine congrArg (List.map _) (List.filter_congr fun r _ => ?_)
  cases s.page? r.page with
  | none => rfl
  | some p =>
    refine Eq.trans (congrArg (fun shown => p.lane == r.lane && shown) (s.any_enabled
      (g := fun u => u.lane == r.lane && p.lines.any (fun l => decide (u.tiles.length * u.cpt < l.length)))
      fun i u hu => by simp only [hu]; rfl)) ?_
    rw [Option.filter_some]
    cases p.lane == r.lane <;> rfl

theorem State.changesTake_iff {s : State} {t : Take} :
    s.changesTake t = true ↔ ¬ (t.cueSource = (s.screens.get t.screen).cueSource
      ∧ t.override = (s.screens.get t.screen).override) := by
  simp only [State.changesTake, Bool.or_eq_true, decide_eq_true_eq]
  tauto

/-- Settles O31. -/
theorem buildGivesEachScreenItsInstruction : Obligations.BuildGivesEachScreenItsInstruction := by
  unfold Obligations.BuildGivesEachScreenItsInstruction
  constructor
  · intro s firing carried takeover takeOf entryOf entry takes entries nothing spent shows stored lanes transfer
    have isTake : ∀ i u, s.takeFor firing carried i u = takeOf i u := fun i u => s.takeFor_eq firing carried i u
    have isEntry : ∀ i u, s.entryFor i u (s.lookUp u.lane (targetSource s.sched.blackout
        (s.takeFor firing carried i u).override (s.takeFor firing carried i u).cueSource)) = entryOf i u := by
      intro i u
      rw [isTake, s.entryFor_eq, s.transfer_eq, targetSource_eq]
      rfl
    have isPlan : s.plan firing carried
        = fun i => (s.screens.get i).setup.map (fun u => (takeOf i u, entryOf i u)) := by
      funext i
      unfold State.plan
      cases (s.screens.get i).setup with
      | none => rfl
      | some u =>
        have both := congrArg₂ Prod.mk (isTake i u) (isEntry i u)
        exact congrArg some both
    have isTakes : (fourNumbers.filterMap (s.plan firing carried)).map (fun p => p.1) = takes := by
      rw [isPlan, List.map_filterMap]
      simp only [Option.map_map]
      rfl
    have isEntries : (fourNumbers.filterMap (s.plan firing carried)).filterMap (fun p => p.2) = entries := by
      rw [isPlan, List.filterMap_filterMap]
      simp only [Option.bind_map]
      rfl
    have isNothing : (firing.isNone && entries.isEmpty && (takeover || !takes.any s.changesTake)) = true ↔ nothing := by
      have kept : takes.any s.changesTake = false ↔ ∀ t ∈ takes, t.cueSource = (s.screens.get t.screen).cueSource
          ∧ t.override = (s.screens.get t.screen).override := by
        rw [List.any_eq_false]
        exact forall₂_congr fun t _ => by rw [State.changesTake_iff, not_not]
      rw [Bool.and_eq_true, Bool.and_eq_true, Bool.or_eq_true, Bool.not_eq_true', kept, Option.isNone_iff_eq_none,
        List.isEmpty_iff, and_assoc]
    have ofScreen : ∀ i e, entry i = some e → e.screen = i := by
      intro i e he
      obtain ⟨u, -, he⟩ := Option.bind_eq_some_iff.mp he
      rw [← isEntry] at he
      exact State.entryFor_screen he
    rw [s.build_eq firing carried takeover isTakes isEntries]
    refine ⟨fun idle => if_pos (isNothing.mpr idle), fun busy => ?_⟩
    have isMissing : (match firing with | some f => s.missingLanes f.record | none => [])
        = lanes (fun r => (stored r).isNone && shows r.lane (fun _ => true)) := by
      cases firing with
      | none => rfl
      | some f => exact s.missingLanes_eq f.record
    have isClipped : (match firing with | some f => s.clippedLanes f.record | none => [])
        = lanes (fun r => (stored r).any (fun p => shows r.lane (fun u =>
            p.lines.any (fun l => decide (u.tiles.length * u.cpt < l.length))))) := by
      cases firing with
      | none => rfl
      | some f => exact s.clippedLanes_eq f.record
    have isBlanks : s.enabled.filter (fun i => (s.screens.get i).initialBlank)
        = fourNumbers.filter (fun i => (s.screens.get i).setup.isSome && (s.screens.get i).initialBlank) := by
      rw [State.enabled, List.filter_filter]
      exact List.filter_congr fun i _ => Bool.and_comm ..
    rw [if_neg (mt isNothing.mp busy), State.handOver_eq _ _ (entryOf_filterMap ofScreen), State.requiredFor_spendWork,
      isMissing, isClipped, isBlanks]
    rfl
  · intro s c held next few
    obtain ⟨free, k, eq, before⟩ := issueTag_free (avoid := c.liveTag :: held) (Nat.succ_le_succ few) c.tagCounter
    have isNext : bumpTag = next := rfl
    have range : 1 ≤ s.newTag c ∧ s.newTag c ≤ 255 := by
      have tag : s.newTag c = _ := eq
      rw [tag, Function.iterate_succ_apply']
      exact bumpTag_range _
    obtain ⟨live, unheld⟩ := not_or.mp (mt List.mem_cons.mpr free)
    exact ⟨range.1, range.2, live, unheld, k, eq, fun j hj => List.mem_cons.mp (before j hj)⟩

/-! ### Overrides (R81 to R83) -/

theorem State.screensOfLane_eq (s : State) (lane : Nat) :
    s.screensOfLane lane
      = fourNumbers.filter (fun i => decide (((s.screens.get i).setup.map (fun u => u.lane)) = some lane)) := by
  rw [State.screensOfLane, State.enabled, List.filter_filter]
  refine List.filter_congr fun i _ => ?_
  cases (s.screens.get i).setup with
  | none => rfl
  | some u => simp [Option.isSome_some, Bool.beq_eq_decide_eq]

theorem State.placeScreens_screen {s : State} {n : Nat} (h : n < 4) :
    s.placeScreens (.screen n) = match (s.screens.get ⟨n, h⟩).setup with
      | none => .error .refusedState
      | some u => .ok ([⟨n, h⟩], u.lane) := by
  have number : fourth? n = some ⟨n, h⟩ := dif_pos h
  cases hs : (s.screens.get ⟨n, h⟩).setup <;> simp only [State.placeScreens, number, hs]

theorem State.placeScreens_noScreen {s : State} {n : Nat} (h : ¬ n < 4) :
    s.placeScreens (.screen n) = .error .badArgument := by
  have number : fourth? n = none := dif_neg h
  simp only [State.placeScreens, number]

theorem State.putEdit_eq (s : State) (named : List (Fin 4)) (e : OverrideEdit) :
    s.putEdit named e = ({ s with
      screens := s.screens.mapIdx (fun i c => if i ∈ named then { c with edit := some e } else c) }).composeWork := by
  unfold State.putEdit State.updScreens
  simp only [List.contains_iff_mem]

theorem clipsOn_iff {u : ScreenSetup} {p : Page} :
    clipsOn u p = true ↔ ∃ l ∈ p.lines, u.tiles.length * u.cpt < l.length := by
  unfold clipsOn
  rw [List.any_eq_true]
  exact exists_congr fun l => and_congr_right fun _ => decide_eq_true_iff

/-- Settles O30. -/
theorem overrideEditsAndGroups : Obligations.OverrideEditsAndGroups := by
  unfold Obligations.OverrideEditsAndGroups
  constructor
  · intro s page place body rest went ofLane wrong named lane standing edited
    have placed : went.placeScreens place = match wrong with
        | some code => .error code
        | none => .ok (named, lane) := by
      cases place with
      | screen n =>
        by_cases h : n < 4
        · rw [State.placeScreens_screen h]
          have screens : went.screens = s.screens := rfl
          rw [screens]
          cases hs : (s.screens.get ⟨n, h⟩).setup <;> simp [wrong, named, lane, h, hs]
        · rw [State.placeScreens_noScreen h]
          simp [wrong, h]
      | lane l =>
        have shown : went.screensOfLane l = ofLane l := went.screensOfLane_eq l
        simp only [State.placeScreens, shown, wrong, named, lane]
        by_cases big : 3 < l
        · simp only [if_pos big]
        · by_cases none : ofLane l = []
          · simp only [if_neg big, if_pos none]
            rw [if_pos (by rw [none]; rfl)]
          · simp only [if_neg big, if_neg none]
            rw [if_neg (by simpa using none)]
    refine ⟨fun h => ?_, fun h => ?_⟩
    · have taken : exec (.showPage page place) s = .next (answered kShowPage (went.showPageRequest page place)) :=
        congrArg _ (h.answered (form := formFree) rfl _)
      rw [taken, State.showPageRequest, placed]
      refine congrArg _ ?_
      by_cases out : page < 1 ∨ 4095 < page
      · rw [if_pos out, if_pos, answered_refuse]
        rw [Bool.not_eq_true', ← Bool.not_eq_true, pageIdOk_iff]
        omega
      · rw [if_neg out, if_neg]
        swap
        · rw [Bool.not_eq_true', ← Bool.not_eq_true, not_not, pageIdOk_iff]
          omega
        cases wrong with
        | some code => exact answered_refuse ..
        | none =>
          have stored : went.page? page = s.page? page := rfl
          simp only [stored]
          cases s.page? page with
          | none => exact answered_refuse ..
          | some p =>
            have clipped : named.filter (fun i => match (went.screens.get i).setup with
                | some u => clipsOn u p
                | none => false)
                = named.filter (fun i => decide
                  (∃ u ∈ (s.screens.get i).setup, ∃ l ∈ p.lines, u.tiles.length * u.cpt < l.length)) := by
              refine List.filter_congr fun i _ => ?_
              have screens : went.screens = s.screens := rfl
              rw [Bool.eq_iff_iff, decide_eq_true_iff, screens]
              cases (s.screens.get i).setup with
              | none => simp
              | some u => simpa using clipsOn_iff
            by_cases other : p.lane ≠ lane
            · simp only [if_pos other]
              exact answered_refuse ..
            · simp only [if_neg other]
              rw [answered_taken _ _ _ (.inl rfl), State.putEdit_eq]
              exact congrArg (fun l => State.withReply _ _ _ (.edit standing l)) clipped
    · have taken : exec (.clearOverride place) s = .next (answered kClearOverride (went.clearOverrideRequest place)) :=
        congrArg _ (h.answered (form := formFree) rfl _)
      rw [taken, State.clearOverrideRequest, placed]
      refine congrArg _ ?_
      cases wrong with
      | some code => exact answered_refuse ..
      | none =>
        simp only [State.putEdit_eq]
        exact answered_taken _ _ _ (.inl rfl)
  · intro s rest went
    refine ⟨fun h => congrArg _ (h.answered (form := formEmpty) rfl _), fun h => ?_⟩
    have taken : exec .groupRelease s = .next (answered kGroupRelease went.groupReleaseRequest) :=
      congrArg _ (h.answered (form := formEmpty) rfl _)
    have held : went.groupHold = s.groupHold := rfl
    rw [taken, State.groupReleaseRequest, held]
    by_cases hold : s.groupHold = true
    · rw [if_pos hold, if_pos hold, answered_taken _ _ _ (.inl rfl)]
    · rw [if_neg hold, if_neg hold, answered_refuse]

/-! ### Blackout and lift (R80, R110, R113) -/

/-- R80: what an enabled screen takes at a blackout change, from the takes carried over. -/
def State.darkTake (s : State) (carried : List Take) (i : Fin 4) : Take :=
  let base : Take := (carried.find? (fun t => t.screen == i)).getD
    { screen := i, cueSource := (s.screens.get i).cueSource, override := (s.screens.get i).override }
  { screen := i, cueSource := base.cueSource
    override := match (s.screens.get i).edit with
      | some (.set p) => if s.groupHold then base.override else some p
      | some .clear => if s.groupHold then base.override else none
      | none => base.override }

theorem State.filterMap_takeFor (s : State) (carried : List Take) (l : List (Fin 4)) :
    l.filterMap (fun i => (s.screens.get i).setup.map (s.takeFor none carried i))
      = (l.filter (fun i => (s.screens.get i).setup.isSome)).map (s.darkTake carried) := by
  induction l with
  | nil => rfl
  | cons i rest ih =>
    cases hs : (s.screens.get i).setup with
    | none => rw [List.filterMap_cons_none (by simp [hs]), List.filter_cons_of_neg (by simp [hs]), ih]
    | some u =>
      rw [List.filterMap_cons_some (b := s.takeFor none carried i u) (by simp [hs]),
        List.filter_cons_of_pos (by simp [hs]), List.map_cons, ih, s.takeFor_eq]
      rfl

/-- R80: the takes of a blackout change, by the enabled screens. -/
theorem State.darkTakes_eq (s : State) {carried : List Take}
    (hc : carried = match s.change with | some c => c.takes | none => []) :
    s.darkTakes = s.enabled.map (s.darkTake carried) := by
  subst hc
  rw [State.enabled, ← State.filterMap_takeFor]
  unfold State.darkTakes
  refine congrArg (fun f => List.filterMap f fourNumbers) (funext fun i => ?_)
  cases (s.screens.get i).setup <;> rfl

/-- The entry of a blackout change (R80). -/
def darkEntry (i : Fin 4) : Entry :=
  { screen := i, shown := { source := .dark, found := false }, instr := .blank, segments := [] }

theorem State.entryOf_darkEntries (s : State) (i : Fin 4) :
    entryOf (s.enabled.map darkEntry) i = if (s.screens.get i).setup.isSome then some (darkEntry i) else none := by
  rw [← List.filterMap_eq_map, entryOf, find?_filterMap_screen]
  · refine if_congr ?_ rfl rfl
    rw [State.enabled, List.mem_filter]
    exact and_iff_right (mem_fourNumbers i)
  · intro j e he
    obtain rfl := Option.some.inj he
    rfl

theorem State.requiredFor_darkEntries (s : State) (l : List (Fin 4)) : s.requiredFor (l.map darkEntry) = [] := by
  unfold State.requiredFor
  rw [List.flatMap_map]
  exact List.flatMap_eq_nil_iff.mpr fun i _ => rfl

/-- Settles O41. -/
theorem blackoutAndLift : Obligations.BlackoutAndLift := by
  unfold Obligations.BlackoutAndLift
  intro s rest went dark enabled carried transfer change darkened
  refine ⟨fun h => ?_, fun h => ?_⟩
  · have taken : exec .blackout s = .next (answered kBlackout went.blackoutRequest) :=
      congrArg _ (h.answered (form := formEmpty) rfl _)
    have flag : went.sched.blackout = s.sched.blackout := rfl
    rw [taken, State.blackoutRequest, flag]
    have builds : ((went.setBlackout true).change.isSome || (went.setBlackout true).enabled.any
          (fun i => decide (((went.setBlackout true).screens.get i).live.source ≠ .dark))) = true
        ↔ s.change ≠ none ∨ ∃ i ∈ enabled, (s.screens.get i).live.source ≠ .dark := by
      rw [Bool.or_eq_true, Option.isSome_iff_ne_none, List.any_eq_true]
      simp only [decide_eq_true_eq]
      rfl
    refine ⟨fun on => ?_, fun off quiet shown => ?_, fun off changes => ?_⟩
    · rw [if_pos on, answered_taken _ _ _ (.inl rfl)]
    · rw [if_neg (by simp [off]), State.buildBlackout, if_neg, answered_taken _ _ _ (.inl rfl)]
      · have nothing : went.superseded = none := congrArg (Option.map _) quiet
        rw [nothing]
        rfl
      · rw [builds]
        rintro (some | ⟨i, hi, other⟩)
        · exact some quiet
        · exact other (shown i hi)
    · rw [if_neg (by simp [off]), State.buildBlackout, if_pos (builds.mpr changes), answered_taken _ _ _ (.inl rfl)]
      refine congrArg (fun t => Host.Outcome.next (State.withReply t _ _ _)) ?_
      have takes : (went.setBlackout true).darkTakes = change.takes := State.darkTakes_eq _ rfl
      have required : ∀ t : State, t.requiredFor (enabled.map darkEntry) = [] :=
        fun t => t.requiredFor_darkEntries enabled
      have firing : (match s.change with | some c => c.firing | none => none) = s.change.bind (fun c => c.firing) := by
        cases s.change <;> rfl
      have screens : s.screens.mapIdx (fun i c => { c with
            edit := if s.groupHold then c.edit else none
            pendingShown := (if (s.screens.get i).setup.isSome then some (darkEntry i) else none).map (fun e => e.shown)
            tagCounter := match (if (s.screens.get i).setup.isSome then some (darkEntry i) else none).map
                (fun e => e.instr) with
              | some (ScreenInstr.swap tag) => tag
              | _ => c.tagCounter })
          = darkened.screens := by
        refine Four.ext_get fun i => ?_
        simp only [darkened, Four.get_mapIdx]
        cases (s.screens.get i).setup <;> rfl
      have handed : ∀ (screens : Four Screen) (firing : Option Firing) (takes : List Take) (required : List Nat),
          screens = darkened.screens → firing = change.firing → takes = change.takes → required = [] →
          ({ darkened with
            screens := screens
            change := some { change with firing := firing, takes := takes, required := required } } : State)
          = darkened := by
        rintro screens firing takes required rfl rfl rfl rfl
        rfl
      exact (State.handOver_eq _ _ (entry := fun i => if (s.screens.get i).setup.isSome then some (darkEntry i) else none)
        s.entryOf_darkEntries).trans (handed _ _ _ _ screens firing takes (required _))
  · have taken : exec .lift s = .next (answered kLift went.liftRequest) :=
      congrArg _ (h.answered (form := formEmpty) rfl _)
    have flag : went.sched.blackout = s.sched.blackout := rfl
    rw [taken, State.liftRequest, flag]
    by_cases on : s.sched.blackout = true
    · rw [if_pos on, if_pos on, answered_taken _ _ _ (.inl rfl)]
      rfl
    · rw [if_neg on, if_neg on, answered_refuse]

end Sys2Proof.Machine
end

section
/-!
The controller's marks and commits (05, 06): each of its operations by the terms the statements use.
-/

namespace Sys2Proof.Machine

set_option Elab.async false

theorem State.inReset_eq_false {s : State} (h : s.resetUnit.period = none) : s.inReset = false := by
  simp [State.inReset, h]

theorem State.inReset_eq_true {s : State} (h : s.resetUnit.period ≠ none) : s.inReset = true :=
  Option.isSome_iff_ne_none.mpr h

/-! ### The sweep timer (R63, R86) -/

/-- Settles O33. -/
theorem sweepBoundaryReachesThreeBlocks : Obligations.SweepBoundaryReachesThreeBlocks := by
  unfold Obligations.SweepBoundaryReachesThreeBlocks
  intro s
  refine ⟨fun timer ht due => ?_, fun early => ?_⟩
  · intro time b begun
    have expires : ∀ full : Bool, s.inFullReset = full → exec .sweepBoundary s
        = .next (if full then s else s.boundary (s.bus.sweepNumber + 1) time false) := fun full hf => by
      have come : decide (timer.length ≤ elapsed s.showClock timer.start) = true := decide_eq_true due
      simp only [exec, execSweepBoundary, ht, come, hf, Bool.true_and]
      cases full <;> rfl
    refine ⟨fun running => ?_, fun p hp => ⟨fun safe => ?_, fun full => ?_⟩⟩
    · rw [expires false (by simp [State.inFullReset, running]), if_neg (by simp), State.boundary,
        State.inReset_eq_false running]
      rfl
    · have reset : s.inReset = true := by simp [State.inReset, hp]
      rw [expires false (by simp [State.inFullReset, hp, safe]), if_neg (by simp), State.boundary, reset]
      rfl
    · rw [expires true (by simp [State.inFullReset, hp, full]), if_pos rfl]
  · cases ht : s.bus.timer with
    | none => simp only [exec, execSweepBoundary, ht]
    | some timer =>
      have waits : decide (timer.length ≤ elapsed s.showClock timer.start) = false :=
        decide_eq_false (not_le.mpr (early timer ht))
      simp only [exec, execSweepBoundary, ht, waits, Bool.false_and, Bool.false_eq_true, if_false]

/-! ### Repairs (R89, R105) -/

theorem repairReady_iff {c : Screen} {t : Tile} : c.repairReady t = true ↔ RepairReady c t := by
  simp only [Screen.repairReady, RepairReady, Bool.and_eq_true, Bool.or_eq_true, decide_eq_true_eq, beq_iff_eq,
    List.contains_iff_mem]
  tauto

theorem entryOf_isSome {entries : List Entry} {i : Fin 4} :
    (entryOf entries i).isSome = true ↔ ∃ e ∈ entries, e.screen = i := by
  simp [entryOf, List.find?_isSome]

/-- R105: a change that stays in flight has an entry for the screen. -/
def State.repairWaits (s : State) (i : Fin 4) : Bool :=
  match s.change with
  | some c => (entryOf c.entries i).isSome
  | none => false

theorem State.repairWaits_eq_false {s : State} {i : Fin 4} :
    s.repairWaits i = false ↔ ∀ c ∈ s.change, ∀ e ∈ c.entries, e.screen ≠ i := by
  unfold State.repairWaits
  cases s.change with
  | none => simp
  | some c =>
    rw [← Bool.not_eq_true, entryOf_isSome]
    simp

theorem State.repairInstr_eq (s : State) (i : Fin 4) : s.repairInstr i = repairGiven s i := by
  have waits : s.repairInstr i = if s.anyRepair i && !s.repairWaits i then
      some (if (s.screens.get i).liveTag = 0 then .blank else .swap) else none := rfl
  rw [waits, repairGiven]
  refine if_congr ?_ rfl rfl
  rw [Bool.and_eq_true, Bool.not_eq_true', State.repairWaits_eq_false, State.anyRepair, List.any_eq_true]
  simp only [repairReady_iff]

/-! ### Sending a mark (R88 to R91) -/

theorem Screen.asShown_eq (c : Screen) (instr : MarkInstr) : c.asShown instr = entryIn c instr := by
  unfold Screen.asShown entryIn
  cases c.setup with
  | none => rfl
  | some u => cases c.live.source <;> rfl

theorem State.tileAfterMark_eq {s : State} (running : s.resetUnit.period = none) (given : Four (Option MarkInstr)) (t : Tile) :
    s.tileAfterMark given t =
      if ∃ i : Fin 4, given.get i = none ∧ repairGiven s i ≠ none ∧ RepairReady (s.screens.get i) t then t.mended
      else t := by
  unfold State.tileAfterMark State.repairSent
  refine if_congr ?_ rfl rfl
  simp only [List.any_eq_true, Bool.and_eq_true, State.inReset_eq_false running, Bool.not_false, true_and,
    State.repairInstr_eq, repairReady_iff, Option.isNone_iff_eq_none, Option.isSome_iff_ne_none, and_assoc]
  exact ⟨fun ⟨i, _, h⟩ => ⟨i, h⟩, fun ⟨i, h⟩ => ⟨i, mem_fourNumbers i, h⟩⟩

/-- A mark outside a reset period, as the statements describe it. -/
theorem State.putMark_eq {s : State} (running : s.resetUnit.period = none) (b : Boundary) (flags : MarkFlags)
    {given : Four (Option MarkInstr)} {gives : Fin 4 → Option MarkInstr} (hg : ∀ i, given.get i = gives i) :
    s.putMark b flags given
      = s.withSent b flags.quiet flags.wake flags.takeover (decide (s.bus.link = .active)) gives := by
  have reset := State.inReset_eq_false running
  have entries : s.markEntries (given.mapIdx s.markInstr)
      = s.screens.mapIdx (fun i c => entryIn c ((gives i).getD ((repairGiven s i).getD .none))) := by
    unfold State.markEntries
    rw [if_neg (by simp [reset])]
    refine Four.ext_get fun i => ?_
    simp only [Four.get_mapIdx, Screen.asShown_eq, hg]
    refine congrArg (entryIn _) ?_
    unfold State.markInstr
    cases gives i with
    | none => rw [if_neg (by simp [reset]), State.repairInstr_eq]; rfl
    | some m => rfl
  have tiles : s.bus.tiles.map (s.tileAfterMark given) = s.bus.tiles.map (fun t =>
      if ∃ i : Fin 4, gives i = none ∧ repairGiven s i ≠ none ∧ RepairReady (s.screens.get i) t then t.mended
      else t) := by
    refine List.map_congr_left fun t _ => ?_
    rw [State.tileAfterMark_eq running]
    simp only [hg]
  have opened : s.newInterval b = intervalAfter s b (decide (s.bus.link = .active)) := by
    unfold State.newInterval
    rw [reset, Bool.not_false, Bool.and_true]
    rfl
  unfold State.putMark State.sweepFrame
  simp only [entries, tiles, opened]
  rfl

theorem State.plainMark_eq {s : State} (running : s.resetUnit.period = none) (b : Boundary) (flags : MarkFlags) :
    s.plainMark b flags = s.withMark b flags.quiet flags.wake flags.takeover (decide (s.bus.link = .active)) :=
  State.putMark_eq running b flags fun i => Four.get_replicate none i

/-- R108: a keep-alive mark, sent in a reset period. -/
theorem State.plainMark_reset {s : State} (period : s.resetUnit.period ≠ none) (quiet : s.change = none) (b : Boundary)
    {flags : MarkFlags} (kept : flags.takeover = false) :
    s.plainMark b flags = s.withKeepAlive b flags.quiet flags.wake := by
  have reset := State.inReset_eq_true period
  have none : ∀ i, (Four.mapIdx (Four.replicate none) s.markInstr).get i = MarkInstr.none := fun i => by
    rw [Four.get_mapIdx, Four.get_replicate, State.markInstr, if_pos reset]
  have entries : s.markEntries (Four.mapIdx (Four.replicate Option.none) s.markInstr)
      = match s.bus.lastShown with
        | some shown => shown.mapIdx (fun _ e => { e with instr := .none })
        | Option.none => s.screens.mapIdx (fun _ c => entryIn c .none) := by
    unfold State.markEntries
    rw [if_pos reset]
    cases s.bus.lastShown with
    | some shown => rfl
    | none =>
      refine Four.ext_get fun i => ?_
      simp only [Four.get_mapIdx] at none ⊢
      rw [none, Screen.asShown_eq]
  have tiles : s.bus.tiles.map (s.tileAfterMark (Four.replicate Option.none)) = s.bus.tiles := by
    refine (List.map_congr_left fun t _ => ?_).trans (List.map_id _)
    unfold State.tileAfterMark State.repairSent
    simp [reset]
  have opened : s.newInterval b = intervalAfter s b false := by
    unfold State.newInterval
    rw [reset, Bool.not_true, Bool.and_false]
    rfl
  have change : s.change.map (fun c => { c with whole := true }) = s.change := by
    rw [quiet]
    rfl
  unfold State.plainMark State.putMark State.sweepFrame
  simp only [entries, tiles, opened, change, kept]
  rfl

/-! ### Commits (R97 to R99) -/

theorem entryOf_screen {entries : List Entry} {i : Fin 4} {e : Entry} (h : entryOf entries i = some e) : e.screen = i := by
  simpa using List.find?_some h

theorem State.givenInstr_eq (s : State) (c : Change) (i : Fin 4) : s.givenInstr c i = commitGives s c i := by
  unfold State.givenInstr commitGives
  change (match entryOf c.entries i with | some e => (s.takenInstr true e).mark? | none => none)
    = match (entryOf c.entries i).map (fun e => e.instr) with
      | some (ScreenInstr.swap _) => some (if tornBlank s i then .blank else .swap)
      | some ScreenInstr.blank => some .blank
      | _ => none
  cases he : entryOf c.entries i with
  | none => rfl
  | some e =>
    have torn : tornBlank s i = (true && s.hasOut e.screen && decide (s.params.partialPolicy = .blankScreen)) := by
      rw [entryOf_screen he, Bool.true_and]
      rfl
    simp only [Option.map_some, State.takenInstr, torn]
    cases e.instr with
    | swap tag =>
      by_cases h : (true && s.hasOut e.screen && decide (s.params.partialPolicy = .blankScreen)) = true
      · simp only [if_pos h]; rfl
      · simp only [if_neg h]; rfl
    | blank | none => rfl

/-- R99: PARTIAL_POLICY turns a SWAP on the bus with a tile OUT into BLANK. -/
theorem State.takenInstr_swap {s : State} (onBus : Bool) {e : Entry} {tag : Nat} (h : e.instr = .swap tag) :
    s.takenInstr onBus e = if onBus && tornBlank s e.screen then .blank else .swap tag := by
  unfold State.takenInstr
  rw [h]
  exact if_congr (by rw [tornBlank, Bool.and_assoc]; rfl) rfl rfl

/-- R99: the partial mark of a screen that was given SWAP. -/
theorem State.partialAfter_swap {s : State} (onBus : Bool) {e : Entry} {tag : Nat} (h : e.instr = .swap tag) (mark : Bool) :
    s.partialAfter onBus (some e) mark =
      if onBus && tornBlank s e.screen then true else Machine.hasOut s e.screen && mark := by
  have out : s.hasOut e.screen = Machine.hasOut s e.screen := rfl
  simp only [State.partialAfter, h, tornBlank, out]
  by_cases torn : Machine.hasOut s e.screen = true <;> simp [torn]

theorem State.screenAfter_eq (s : State) (c : Change) (onBus : Bool) (i : Fin 4) (old : Screen) :
    s.screenAfter c onBus i old = screenAfterCommit s c onBus i old := by
  have found : c.entries.find? (fun e => e.screen == i) = entryOf c.entries i := rfl
  simp only [State.screenAfter, screenAfterCommit, found]
  cases he : entryOf c.entries i with
  | none => cases c.takes.find? (fun t => t.screen == i) <;> rfl
  | some e =>
    cases hi : e.instr with
    | none | blank =>
      have taken : s.takenFor onBus (some e) = e.instr := by simp [State.takenFor, State.takenInstr, hi]
      rw [taken, hi]
      simp only [State.partialAfter, hi]
      cases c.takes.find? (fun t => t.screen == i) <;> rfl
    | swap tag =>
      have taken : s.takenFor onBus (some e) = if onBus && tornBlank s i then .blank else .swap tag := by
        rw [← entryOf_screen he]
        exact State.takenInstr_swap onBus hi
      rw [taken, State.partialAfter_swap onBus hi, entryOf_screen he]
      simp only [hi]
      cases onBus && tornBlank s i <;> cases c.takes.find? (fun t => t.screen == i) <;> rfl

theorem commitGives_eq_blank {s : State} {c : Change} {i : Fin 4} :
    commitGives s c i = some .blank
      ↔ (match entryOf c.entries i with | some e => decide (s.takenInstr true e = .blank) | none => false) = true := by
  rw [← State.givenInstr_eq, State.givenInstr]
  cases entryOf c.entries i with
  | none => simp
  | some e => cases h : s.takenInstr true e <;> simp [h, ScreenInstr.mark?]

theorem State.tileAtCommit_eq (s : State) (c : Change) (t : Tile) :
    s.tileAtCommit c t =
      if ∃ i : Fin 4, RepairReady (s.screens.get i) t ∧ commitGives s c i = some MarkInstr.blank then t.mended
      else if t.address ∈ c.acked then { t with heldTags := [] } else t := by
  have acked : ∀ u : Tile, (if c.acked.contains t.address then u else t) = if t.address ∈ c.acked then u else t :=
    fun u => if_congr List.contains_iff_mem rfl rfl
  have blanked : (fourNumbers.any fun i => (s.screens.get i).repairReady t
        && (match entryOf c.entries i with | some e => decide (s.takenInstr true e = .blank) | none => false)) = true
      ↔ ∃ i : Fin 4, RepairReady (s.screens.get i) t ∧ commitGives s c i = some MarkInstr.blank := by
    rw [List.any_eq_true]
    simp only [Bool.and_eq_true, repairReady_iff, ← commitGives_eq_blank]
    exact ⟨fun ⟨i, _, h⟩ => ⟨i, h⟩, fun ⟨i, h⟩ => ⟨i, mem_fourNumbers i, h⟩⟩
  unfold State.tileAtCommit
  refine if_congr blanked ?_ (acked _)
  rw [acked]
  split <;> rfl

theorem State.reportOf_eq (s : State) (b : Boundary) (c : Change) (onBus : Bool) :
    s.reportOf b c onBus = match c.firing with
      | none => []
      | some f =>
        [{ cue := f.cue, trigger := f.trigger, sweep := b.number
           position := s.fullPositionAt (s.readingTime b), dark := c.blackout || c.builtDark, shadow := !onBus
           clipped := c.clipped, missing := c.missing
           partialScreens := fourNumbers.filter (fun i => onBus && Machine.hasOut s i
             && (match (c.entries.find? (fun e => e.screen == i)).map (fun e => e.instr) with
                 | some (ScreenInstr.swap _) => true
                 | _ => false)) }] := by
  have partials : (if onBus then s.partialScreens c else []) = fourNumbers.filter (fun i => onBus && Machine.hasOut s i
      && (match (c.entries.find? (fun e => e.screen == i)).map (fun e => e.instr) with
          | some (ScreenInstr.swap _) => true
          | _ => false)) := by
    cases onBus with
    | false => rfl
    | true =>
      refine List.filter_congr fun i _ => ?_
      change _ = (true && Machine.hasOut s i && match (entryOf c.entries i).map (fun e => e.instr) with
        | some (ScreenInstr.swap _) => true
        | _ => false)
      cases entryOf c.entries i with
      | none => simp
      | some e =>
        have out : s.hasOut i = Machine.hasOut s i := rfl
        cases h : e.instr <;> simp [h, out]
  cases hf : c.firing <;> simp only [State.reportOf, hf, partials]

/-- A commit, as the statements describe it. -/
theorem State.commitChange_eq (s : State) (b : Boundary) (c : Change) (onBus : Bool) :
    s.commitChange b c onBus = s.withCommit b c onBus := by
  have screens : s.screenAfter c onBus = screenAfterCommit s c onBus :=
    funext fun i => funext fun old => s.screenAfter_eq c onBus i old
  have tiles : s.tileAtCommit c = fun t =>
      if ∃ i : Fin 4, RepairReady (s.screens.get i) t ∧ commitGives s c i = some MarkInstr.blank then t.mended
      else if t.address ∈ c.acked then { t with heldTags := [] } else t := funext fun t => s.tileAtCommit_eq c t
  have report := s.reportOf_eq b c onBus
  unfold State.commitChange State.commitScreens
  rw [screens, tiles, report]
  cases onBus <;> rfl

theorem State.afterCommit_eq (s : State) (c : Change) : s.afterCommit c = s.withRestores c := rfl

theorem State.commitMark_eq {s : State} (running : s.resetUnit.period = none) (b : Boundary) (flags : MarkFlags)
    (c : Change) :
    s.commitMark b flags c
      = s.withCommitMark b c flags.quiet flags.wake flags.takeover (decide (s.bus.link = .active)) := by
  have sent := State.putMark_eq (s := s.withCommit b c true) running b flags
    (given := s.screens.mapIdx (fun i _ => s.givenInstr c i)) (gives := commitGives s c)
    fun i => by rw [Four.get_mapIdx, State.givenInstr_eq]
  rw [State.commitMark, State.commitChange_eq, sent]
  rfl

theorem Change.whollyAcked_iff {c : Change} : c.whollyAcked = true ↔ ∀ a ∈ c.required, a ∈ c.acked := by
  simp [Change.whollyAcked]

theorem Change.givesSwap_iff {c : Change} : c.givesSwap = true ↔ ∃ e ∈ c.entries, ∃ tag, e.instr = .swap tag := by
  unfold Change.givesSwap
  rw [List.any_eq_true]
  refine exists_congr fun e => and_congr_right fun _ => ?_
  cases e.instr <;> simp

/-- A mark at which the count does not rise (R96, R118, R134), as the statements describe it. -/
theorem State.testedMark_false {s : State} (running : s.resetUnit.period = none) (b : Boundary) (flags : MarkFlags) :
    s.testedMark b flags false
      = s.withTestedMark b flags.quiet flags.wake flags.takeover (decide (s.bus.link = .active)) := by
  unfold State.testedMark State.withTestedMark
  cases s.change with
  | none => exact State.plainMark_eq running b flags
  | some c =>
    simp only [State.commitMark_eq running, State.plainMark_eq running]
    exact if_congr Change.whollyAcked_iff rfl rfl

theorem State.markUncounted_tested {s : State} (running : s.resetUnit.period = none) (b : Boundary) (flags : MarkFlags)
    {swapTested : Bool} (h : swapTested = true ∨ ¬ GivesSwap s) :
    s.markUncounted b flags swapTested
      = s.withTestedMark b flags.quiet flags.wake flags.takeover (decide (s.bus.link = .active)) := by
  rw [← State.testedMark_false running]
  unfold State.markUncounted
  cases hc : s.change with
  | none => simp only [State.testedMark, hc]
  | some c =>
    refine if_neg ?_
    rw [Bool.and_eq_true, Bool.not_eq_true', Change.givesSwap_iff]
    rintro ⟨swap, untested⟩
    rcases h with tested | plain
    · rw [tested] at untested
      cases untested
    · exact plain ⟨c, hc, swap⟩

theorem State.markUncounted_plain {s : State} (running : s.resetUnit.period = none) (b : Boundary) (flags : MarkFlags)
    (h : GivesSwap s) :
    s.markUncounted b flags false
      = s.withMark b flags.quiet flags.wake flags.takeover (decide (s.bus.link = .active)) := by
  rw [← State.plainMark_eq running]
  obtain ⟨c, hc, swap⟩ := h
  unfold State.markUncounted
  rw [show s.change = some c from hc]
  exact if_pos (by rw [Bool.not_false, Bool.and_true]; exact Change.givesSwap_iff.mpr swap)

theorem State.couldRest_iff {s : State} : s.couldRest = true ↔ CouldRest s := by
  have screens : s.enabled.all (fun i => (s.screens.get i).showsBlank && !(s.screens.get i).partialMark) = true
      ↔ ∀ i : Fin 4, (s.screens.get i).setup ≠ none →
          ShowsBlank (s.screens.get i) ∧ (s.screens.get i).partialMark = false := by
    simp only [State.enabled, List.all_eq_true, List.mem_filter, mem_fourNumbers, true_and, Bool.and_eq_true,
      showsBlank_iff, Bool.not_eq_true', Option.isSome_iff_ne_none]
  have tiles : (!s.bus.tiles.any (fun t => decide (t.state = .inService) && t.repairDue
        && (s.screenOf t.address).isSome)) = true ↔ ∀ t ∈ s.bus.tiles, ¬ RepairDue s t := by
    rw [Bool.not_eq_true', List.any_eq_false]
    simp only [Bool.and_eq_true, decide_eq_true_eq, Option.isSome_iff_ne_none, RepairDue, and_assoc]
  unfold State.couldRest
  rw [Bool.and_eq_true, Bool.and_eq_true, Bool.and_eq_true, screens, tiles, Option.isNone_iff_eq_none, bne_iff_ne]
  simp only [CouldRest, and_assoc]

/-! ### Partial marks to clear (R100) -/

theorem State.mem_clearDue {s : State} {i : Fin 4} : i ∈ s.clearDue ↔ ClearDue s i := by
  simp only [State.clearDue, List.mem_filter, mem_fourNumbers, true_and, Bool.and_eq_true, Bool.or_eq_true,
    Option.isNone_iff_eq_none, decide_eq_true_eq, List.all_eq_true, List.any_eq_true, beq_iff_eq, ClearDue, or_assoc]

theorem State.clearDue_eq_nil {s : State} (h : ∀ i, ¬ ClearDue s i) : s.clearDue = [] :=
  List.eq_nil_iff_forall_not_mem.mpr fun i hi => h i (State.mem_clearDue.mp hi)

/-- A boundary that finds no partial mark to clear is the mark its case calls for. -/
theorem NoClearing.handles {s : State} (h : NoClearing s) (b : Boundary) :
    s.controllerHandles b = s.markFor b s.markCase := by
  have none : s.clearDue = [] := State.clearDue_eq_nil h.kept
  have before : s.beforeMark = s := if_pos (by simp [none])
  unfold State.controllerHandles
  rw [before, none]
  exact if_pos (by simp)

theorem NoClearing.withControllerDue {s : State} (h : NoClearing s) (due : List Boundary) :
    NoClearing (s.withControllerDue due) := ⟨h.running, h.kept⟩

theorem execControllerBoundary_cons {s : State} {b : Boundary} {due : List Boundary} (h : s.bus.controllerDue = b :: due) :
    exec .controllerBoundary s = .next ((s.withControllerDue due).controllerHandles b) := by
  simp only [exec, execControllerBoundary, State.controllerNext, h]
  rfl

/-- A boundary that finds no partial mark to clear. -/
theorem NoClearing.exec {s : State} (h : NoClearing s) {b : Boundary} {due : List Boundary}
    (hdue : s.bus.controllerDue = b :: due) {m : MarkCase} (hm : (s.withControllerDue due).markCase = m) :
    Machine.exec .controllerBoundary s = .next ((s.withControllerDue due).markFor b m) := by
  rw [execControllerBoundary_cons hdue, (h.withControllerDue due).handles, hm]

/-- In a reset period nothing is cleared. -/
theorem State.handles_reset {s : State} (period : s.resetUnit.period ≠ none) (b : Boundary) :
    s.controllerHandles b = s.markFor b s.markCase := by
  have before : s.beforeMark = s := if_pos (by simp [State.inReset_eq_true period])
  have after : (s.markFor b s.markCase).inReset = true := by
    unfold State.inReset
    rw [(s.markFor_same b s.markCase).resetUnit (by decide)]
    exact State.inReset_eq_true period
  unfold State.controllerHandles
  rw [before]
  exact if_pos (by simp [after])

end Sys2Proof.Machine
end

section
/-!
What a boundary sends (05, 06): marks without a commit, commits, the grace, and the link at rest.
-/

namespace Sys2Proof.Machine

set_option Elab.async false

/-! ### What a boundary calls for (R87, R116 to R118, R126, R135) -/

theorem Marks.markCase {s : State} (h : Marks s) : s.markCase = s.linkCase := by
  unfold State.markCase
  rcases h with driving | ⟨releasing, held, some⟩
  · simp only [driving]
  · simp [releasing, held, Option.isSome_iff_ne_none, some]

theorem State.graceEnds_iff {s : State} :
    s.graceEnds = true ↔ ∃ c, s.change = some c ∧ ¬ (∀ a ∈ c.required, a ∈ c.acked) ∧ c.whole = true
      ∧ s.params.graceSweeps ≤ c.markCount + 1 := by
  unfold State.graceEnds
  cases s.change with
  | none => simp
  | some c =>
    simp only [Bool.and_eq_true, Bool.not_eq_true', ← Bool.not_eq_true, Change.whollyAcked_iff, decide_eq_true_eq,
      Option.some.injEq, exists_eq_left', and_assoc]

/-- The quiet counter of a mark's test outside a reset period. -/
theorem State.countRest_eq {s : State} (running : s.resetUnit.period = none) :
    s.countRest = { s with bus := { s.bus with
      quietCount := if CouldRest s then s.bus.quietCount + 1 else 0 } } := by
  have test : (s.couldRest && !s.inReset) = true ↔ CouldRest s := by
    rw [State.inReset_eq_false running, Bool.not_false, Bool.and_true, State.couldRest_iff]
  unfold State.countRest
  simp only [test]

/-- The mark of an ACTIVE link with nothing special: the quiet counter, and the test of the change in flight. -/
theorem State.markFor_ordinary {s : State} (running : s.resetUnit.period = none) (b : Boundary) :
    s.markFor b .ordinary = State.testedMark { s with bus := { s.bus with
      quietCount := if CouldRest s then s.bus.quietCount + 1 else 0 } } b MarkFlags.clear true := by
  rw [← State.countRest_eq running]
  rfl

theorem State.markFor_forced {s : State} (running : s.resetUnit.period = none) (b : Boundary) :
    s.markFor b .forced = State.testedMark { s with bus := { s.bus with
      quietCount := if CouldRest s then s.bus.quietCount + 1 else 0 } } b MarkFlags.clear true :=
  s.markFor_ordinary running b

theorem State.linkCase_active {s : State} (active : s.bus.link = .active) (grace : s.graceEnds = false)
    (rests : s.inReset = true ∨ (CouldRest s → s.bus.quietCount + 1 < s.params.quietDelay)) :
    s.linkCase = .ordinary := by
  unfold State.linkCase
  rw [active]
  simp only
  rw [if_neg (by simp [grace]), if_neg]
  rw [Bool.and_eq_true, Bool.and_eq_true, State.couldRest_iff, decide_eq_true_iff]
  rintro ⟨⟨rest, running⟩, due⟩
  rcases rests with reset | early
  · simp [reset] at running
  · exact absurd (early rest) (by omega)

theorem State.testedMark_waiting {s : State} {c : Change} (hc : s.change = some c)
    (waits : ∃ a ∈ c.required, a ∉ c.acked) (early : c.whole = true → c.markCount + 1 < s.params.graceSweeps)
    (b : Boundary) (flags : MarkFlags) :
    s.testedMark b flags true = State.plainMark
      { s with change := some { c with markCount := if c.whole = true then c.markCount + 1 else c.markCount } }
      b flags := by
  have unacked : ¬ c.whollyAcked = true := by
    rw [Change.whollyAcked_iff]
    obtain ⟨a, ha, out⟩ := waits
    exact fun all => out (all a ha)
  unfold State.testedMark
  simp only [hc, Bool.true_and]
  rw [if_neg unacked]
  by_cases whole : c.whole = true
  · rw [if_pos whole, if_neg (not_le.mpr (early whole)), if_pos whole]
  · rw [if_neg whole, if_neg whole]
    have same : { s with change := some c } = s := by rw [← hc]
    exact congrArg (fun t => State.plainMark t b flags) same.symm

/-! ### Keep-alive marks (R108, R120) -/

theorem State.setLink_reset {s : State} (period : s.resetUnit.period ≠ none) (link : LinkState) (n : SweepNo)
    (cause : LinkCause) : s.setLink link n cause = { s with bus := { s.bus with link := link } } := by
  unfold State.setLink
  split
  case isTrue same => rw [← same]
  case isFalse => exact if_pos (State.inReset_eq_true (s := { s with bus := { s.bus with link := link } }) period)

theorem State.setLink_other {s : State} {link : LinkState} (other : s.bus.link ≠ link) (n : SweepNo)
    (cause : LinkCause) :
    s.setLink link n cause = ({ s with bus := { s.bus with link := link } }).post (.linkState link s.bus.link n cause) :=
  if_neg other

theorem State.controllerIf_eq {s : State} {m : MarkCase} (h : s.beforeMark.markCase = m) :
    s.controllerIf m = s.controllerNext := if_pos h

theorem State.controllerIf_other {s : State} {m : MarkCase} (h : s.beforeMark.markCase ≠ m) : s.controllerIf m = s :=
  if_neg h

theorem NoClearing.beforeMark {s : State} (h : NoClearing s) : s.beforeMark = s :=
  if_pos (by simp [State.clearDue_eq_nil h.kept])

theorem State.beforeMark_reset {s : State} (period : s.resetUnit.period ≠ none) : s.beforeMark = s :=
  if_pos (by simp [State.inReset_eq_true period])

/-- In a reset period a boundary is the mark its case calls for. -/
theorem exec_reset {s : State} (period : s.resetUnit.period ≠ none) {b : Boundary} {due : List Boundary}
    (hdue : s.bus.controllerDue = b :: due) {m : MarkCase} (hm : (s.withControllerDue due).markCase = m) :
    exec .controllerBoundary s = .next ((s.withControllerDue due).markFor b m) := by
  rw [execControllerBoundary_cons hdue, State.handles_reset (s := s.withControllerDue due) period, hm]

/-! ### Commits (R96, R97, R126, R135) -/

theorem State.testedMark_acked {s : State} (running : s.resetUnit.period = none) {c : Change} (hc : s.change = some c)
    (acked : ∀ a ∈ c.required, a ∈ c.acked) (b : Boundary) (flags : MarkFlags) (rises : Bool) :
    s.testedMark b flags rises
      = s.withCommitMark b c flags.quiet flags.wake flags.takeover (decide (s.bus.link = .active)) := by
  rw [← State.commitMark_eq running]
  simp only [State.testedMark, hc, if_pos (Change.whollyAcked_iff.mpr acked)]

theorem State.commitNotional_eq {s : State} {c : Change} (hc : s.change = some c) (b : Boundary) :
    s.commitNotional b = (s.withCommit b c false).withRestores c := by
  rw [← State.commitChange_eq]
  simp only [State.commitNotional, hc]
  rfl

/-- R135: what a RELEASING part's boundary leaves, from what its commit left. -/
theorem State.stopDriving_eq {s u : State} {b : Boundary} (hu : s.commitNotional b = u)
    (own : u.own = { s.own with heldChange := u.own.heldChange }) :
    s.stopDriving b = ({ u with
      own := { s.own with
        state := if s.own.grant then .granted else .shadow
        drive := false, bothDriving := false, contention := 0, heldChange := false }
      bus := { u.bus with interval := none, window := none, quietCount := 0 } } : State).post
        (.ownership (if s.own.grant then .granted else .shadow) .releasing b.number .releaseDone false) := by
  unfold State.stopDriving
  simp only [hu]
  rw [own]

theorem not_couldRest_of_change {s : State} (flying : s.change ≠ none) : ¬ CouldRest s := fun rest => flying rest.2.1

/-- R96, R97: on an ACTIVE link a change whose required tiles have all acknowledged commits at the mark. -/
theorem exec_acked {s : State} (clear : NoClearing s) (marks : Marks s) (active : s.bus.link = .active) {b : Boundary}
    {due : List Boundary} (hdue : s.bus.controllerDue = b :: due) {c : Change} (hc : s.change = some c)
    (acked : ∀ a ∈ c.required, a ∈ c.acked) :
    exec .controllerBoundary s = .next (State.withCommitMark
      { s with bus := { s.bus with controllerDue := due, quietCount := 0 } } b c false false false true) := by
  have notCould : ¬ CouldRest (s.withControllerDue due) :=
    not_couldRest_of_change (s := s.withControllerDue due) (by simp [hc])
  have case : (s.withControllerDue due).markCase = .ordinary := by
    rw [Marks.markCase (s := s.withControllerDue due) marks]
    refine State.linkCase_active active ?_ (.inr fun rest => absurd rest notCould)
    rw [← Bool.not_eq_true, State.graceEnds_iff]
    rintro ⟨d, hd, unacked, -⟩
    obtain rfl : c = d := Option.some.inj (hc.symm.trans hd)
    exact unacked acked
  rw [clear.exec hdue case, State.markFor_ordinary (s := s.withControllerDue due) clear.running, if_neg notCould]
  refine (congrArg _ (State.testedMark_acked (s := { s with bus := { s.bus with
    controllerDue := due, quietCount := 0 } }) clear.running hc acked b _ _)).trans ?_
  have carries : decide (s.bus.link = .active) = true := decide_eq_true active
  change Host.Outcome.next (State.withCommitMark _ b c false false false (decide (s.bus.link = .active))) = _
  rw [carries]

/-- Settles O35. -/
theorem acknowledgedChangeCommits : Obligations.AcknowledgedChangeCommits := by
  unfold Obligations.AcknowledgedChangeCommits
  intro s b due hdue went
  refine ⟨fun c clear marks active hc acked => ?_, fun c clear shadow hc => ?_, fun releasing unheld => ?_⟩
  · exact exec_acked clear marks active hdue hc acked
  · have case : went.markCase = .notional := by
      simp [State.markCase, went, shadow, hc]
    rw [clear.exec hdue case]
    exact congrArg _ (State.commitNotional_eq (s := went) hc b)
  · intro after ended
    have case : went.markCase = .stops := by
      simp only [State.markCase, went, State.withControllerDue_own, releasing, State.withControllerDue_change]
      rcases unheld with unheld | none
      · simp [unheld]
      · simp [none]
    refine ⟨fun none ready => ?_, fun c hc clear => ?_⟩
    · have stopped : went.stopDriving b = ended went :=
        State.stopDriving_eq (s := went) (by simp [State.commitNotional, went, none]) rfl
      rw [← stopped]
      rcases ready with clear | period
      · exact clear.exec hdue case
      · exact exec_reset period hdue case
    · rw [clear.exec hdue case]
      refine congrArg _ (State.stopDriving_eq (s := went) (State.commitNotional_eq (s := went) hc b) ?_)
      have own := (State.afterCommit_same (went.withCommit b c false) c).own (by decide)
      rw [State.afterCommit_eq] at own
      rw [own]
      rfl

/-! ### The link at rest (R116 to R118, R161) -/

theorem PanelBus.dropSurveyPoll_eq (b : PanelBus) :
    b.dropSurveyPoll = { b with window := b.window.filter (fun w => decide (w.frame ≠ .surveyPoll)) } := by
  have kept : ∀ o, b.window = o → b = { b with window := o } := by
    rintro o rfl
    rfl
  unfold PanelBus.dropSurveyPoll
  cases hw : b.window with
  | none => exact kept _ hw
  | some w =>
    by_cases poll : w.frame = .surveyPoll
    · simp [poll, Option.filter]
    · simpa [poll, Option.filter] using kept _ hw

theorem State.abortSurvey_idle {s : State} (h : s.survey.running = false) (cause : SurveyAbort) :
    s.abortSurvey cause = s := if_neg (by simp [h])

/-- R161 and log 43: a running survey aborted, its poll's reply window gone. -/
theorem State.abortSurvey_running {s : State} (h : s.survey.running = true) (cause : SurveyAbort) :
    s.abortSurvey cause = ({ s with
      survey := { s.survey with running := false }
      bus := { s.bus with window := s.bus.window.filter (fun w => decide (w.frame ≠ .surveyPoll)) }
    } : State).post (.surveyDone (s.surveyReport (some cause))) := by
  unfold State.abortSurvey
  rw [if_pos h, PanelBus.dropSurveyPoll_eq]
  rfl

theorem State.surveyReport_post (s : State) (n : Notice) (cause : Option SurveyAbort) :
    (s.post n).surveyReport cause = s.surveyReport cause := by
  rw [State.post_frame]
  rfl

theorem State.linkCase_quietEntry {s : State} (active : s.bus.link = .active) (running : s.resetUnit.period = none)
    (rest : CouldRest s) (due : s.params.quietDelay ≤ s.bus.quietCount + 1) : s.linkCase = .quietEntry := by
  have grace : s.graceEnds = false := by
    rw [← Bool.not_eq_true, State.graceEnds_iff]
    rintro ⟨c, hc, -⟩
    rw [rest.2.1] at hc
    cases hc
  have test : (s.couldRest && !s.inReset && decide (s.params.quietDelay ≤ s.bus.quietCount + 1)) = true := by
    simp [State.couldRest_iff.mpr rest, State.inReset_eq_false running, due]
  unfold State.linkCase
  rw [active]
  simp only
  rw [if_neg (by simp [grace]), if_pos test]

theorem State.linkCase_active_other {s : State} (active : s.bus.link = .active)
    (rests : ¬ CouldRest s ∨ s.bus.quietCount + 1 < s.params.quietDelay) : s.linkCase ≠ .quietEntry := by
  unfold State.linkCase
  rw [active]
  simp only
  split
  · simp
  rw [if_neg]
  · simp
  rw [Bool.and_eq_true, Bool.and_eq_true, State.couldRest_iff, decide_eq_true_iff]
  rintro ⟨⟨rest, -⟩, due⟩
  rcases rests with not | early
  · exact not rest
  · omega

theorem State.linkCase_quiet {s : State} (quiet : s.bus.link = .quiet) (none : s.change = none) :
    s.linkCase = if 16 ≤ s.bus.sinceMark + 1 then .refresh else .rest := by
  simp only [State.linkCase, quiet, none]

theorem State.linkCase_wake {s : State} (quiet : s.bus.link = .quiet) (swap : GivesSwap s) : s.linkCase = .wake := by
  obtain ⟨c, hc, swap⟩ := swap
  simp only [State.linkCase, quiet, show s.change = some c from hc, if_pos (Change.givesSwap_iff.mpr swap)]

theorem State.linkCase_quietCommit {s : State} (quiet : s.bus.link = .quiet) (flying : s.change ≠ none)
    (plain : ¬ GivesSwap s) : s.linkCase = .quietCommit := by
  obtain ⟨c, hc⟩ := Option.ne_none_iff_exists'.mp flying
  have noSwap : ¬ c.givesSwap = true := fun swap => plain ⟨c, hc, Change.givesSwap_iff.mp swap⟩
  simp only [State.linkCase, quiet, hc, if_neg noSwap]

theorem State.linkCase_waking {s : State} (waking : s.bus.link = .waking) :
    s.linkCase = if 2 ≤ s.bus.sinceWake + 1 then .wakeDone else .waking := by
  unfold State.linkCase
  rw [waking]

/-- A mark of a link at rest opens an interval that carries nothing (R118). -/
theorem State.plainMark_rests {s : State} (running : s.resetUnit.period = none) (rests : s.bus.link ≠ .active)
    (b : Boundary) (flags : MarkFlags) :
    s.plainMark b flags = s.withMark b flags.quiet flags.wake flags.takeover false := by
  rw [State.plainMark_eq running, decide_eq_false rests]

/-- A named boundary runs the whole boundary when the boundary calls for it (log 12). -/
theorem NoClearing.controllerIf {s : State} (h : NoClearing s) {m : MarkCase} (hm : s.markCase = m) :
    s.controllerIf m = s.controllerNext := State.controllerIf_eq (by rw [h.beforeMark, hm])

theorem NoClearing.controllerIf_other {s : State} (h : NoClearing s) {m : MarkCase} (hm : s.markCase ≠ m) :
    s.controllerIf m = s := State.controllerIf_other (by rwa [h.beforeMark])

/-- Settles O37. -/
theorem theLinkRestsAndWakes : Obligations.TheLinkRestsAndWakes := by
  unfold Obligations.TheLinkRestsAndWakes
  refine ⟨fun s b due hdue clear driving active => ⟨fun rest long => ?_, fun early => ?_⟩,
    fun s b due hdue clear marks isQuiet => ?_, fun s b due hdue clear marks waking => ?_⟩
  · intro quiet
    have case : s.markCase = .quietEntry := by
      rw [Marks.markCase (s := s) (.inl driving)]
      exact State.linkCase_quietEntry active clear.running rest long
    have same : exec .quietEntry s = exec .controllerBoundary s := congrArg _ (clear.controllerIf case)
    have linked : ({ s with bus := { s.bus with controllerDue := due, quietCount := 0 } } : State).setLink .quiet
        b.number .idleScreens = quiet := by
      rw [State.setLink_other (by simp [active])]
      simp only [quiet, active]
    have marked : exec .controllerBoundary s
        = .next ((quiet.abortSurvey .linkQuiet).plainMark b { MarkFlags.clear with quiet := true }) := by
      rw [clear.exec hdue case, ← linked]
      rfl
    have survey : quiet.survey = s.survey := State.post_survey ..
    have reset : quiet.resetUnit = s.resetUnit := State.post_resetUnit ..
    have link : quiet.bus.link = .quiet := by simp [quiet]
    rw [same]
    refine ⟨rfl, fun idle => ?_, fun runs => ?_⟩
    · rw [marked, State.abortSurvey_idle (by rw [survey]; exact idle),
        State.plainMark_rests (by rw [reset]; exact clear.running) (by simp [link])]
      rfl
    · have window : quiet.bus.window = s.bus.window := by simp [quiet]
      have report : quiet.surveyReport (some .linkQuiet) = s.surveyReport (some .linkQuiet) :=
        State.surveyReport_post ..
      rw [marked, State.abortSurvey_running (by rw [survey]; exact runs), survey, window, report,
        State.plainMark_rests]
      · rfl
      · rw [State.post_resetUnit]
        exact reset ▸ clear.running
      · simp [link]
  · refine congrArg _ (clear.controllerIf_other ?_)
    rw [Marks.markCase (s := s) (.inl driving)]
    exact State.linkCase_active_other active early
  · intro went
    have case := Marks.markCase (s := s) marks
    have rests : s.bus.link ≠ .active := by simp [isQuiet]
    refine ⟨fun none long => ?_, fun none short => ?_, fun some plain => ?_, fun swap => ?_⟩
    · rw [State.linkCase_quiet isQuiet none, if_pos long] at case
      have same : exec .refreshMark s = exec .controllerBoundary s := congrArg _ (clear.controllerIf case)
      have marked : exec .controllerBoundary s = .next (went.withMark b true false false false) := by
        rw [clear.exec hdue case]
        exact congrArg _ (State.plainMark_rests (s := went) clear.running rests b _)
      exact ⟨marked, same.trans marked⟩
    · rw [State.linkCase_quiet isQuiet none, if_neg (not_le.mpr short)] at case
      exact ⟨congrArg _ (clear.controllerIf_other (by simp [case])), clear.exec hdue case⟩
    · rw [State.linkCase_quietCommit isQuiet some plain] at case
      refine ⟨?_, congrArg _ (clear.controllerIf_other (by simp [case]))⟩
      rw [clear.exec hdue case]
      change Host.Outcome.next (went.markUncounted b { MarkFlags.clear with quiet := true } false) = _
      rw [State.markUncounted_tested (s := went) clear.running b _ (.inr plain),
        show decide (went.bus.link = .active) = false from decide_eq_false rests]
      rfl
    · rw [State.linkCase_wake isQuiet swap] at case
      rw [clear.exec hdue case]
      change Host.Outcome.next ((State.setLink { s with bus := { s.bus with controllerDue := due, sinceWake := 0 } }
        .waking b.number .wake).plainMark b { MarkFlags.clear with wake := true }) = _
      rw [State.setLink_other (by simp [isQuiet]), State.plainMark_rests]
      · simp only [isQuiet]
        rfl
      · rw [State.post_resetUnit]
        exact clear.running
      · simp
  · have case := (Marks.markCase (s := s) marks).trans (State.linkCase_waking waking)
    have notActive : decide (s.bus.link = .active) = false := by simp [waking]
    refine ⟨fun early => ?_, fun done => ?_⟩
    · intro went
      rw [if_neg (not_le.mpr early)] at case
      refine ⟨congrArg _ (clear.controllerIf_other (by simp [case])), fun swap => ?_, fun plain => ?_⟩
      all_goals
        rw [clear.exec hdue case]
        change Host.Outcome.next (went.markUncounted b { MarkFlags.clear with wake := true } false) = _
      · rw [State.markUncounted_plain (s := went) clear.running b _ swap,
          show decide (went.bus.link = .active) = false from notActive]
        rfl
      · rw [State.markUncounted_tested (s := went) clear.running b _ (.inr plain),
          show decide (went.bus.link = .active) = false from notActive]
        rfl
    · intro woken
      rw [if_pos done] at case
      have same : exec .wakeDone s = exec .controllerBoundary s := congrArg _ (clear.controllerIf case)
      have marked : exec .controllerBoundary s = .next woken := by
        rw [clear.exec hdue case]
        change Host.Outcome.next ((State.setLink (s.withControllerDue due) .active b.number .wakeDone).markUncounted b
          MarkFlags.clear true) = _
        rw [State.setLink_other (by simp [waking]), State.markUncounted_tested _ _ _ (.inl rfl)]
        · rw [State.post_bus]
          simp only [waking, State.withControllerDue_bus]
          rfl
        · rw [State.post_resetUnit]
          exact clear.running
      exact ⟨marked, same.trans marked⟩

end Sys2Proof.Machine
end

section
/-!
The grace of a change in flight (05, section 5.5), and the boundaries at which nothing commits.
-/

namespace Sys2Proof.Machine

set_option Elab.async false

/-! ### Notices posted one after another (R171) -/

theorem State.postAll_cons (s : State) (n : Notice) (ns : List Notice) : s.postAll (n :: ns) = (s.post n).postAll ns := rfl

theorem State.post_port_congr {s t : State} (port : s.port = t.port) (period : s.resetUnit = t.resetUnit) (n : Notice) :
    (s.post n).port = (t.post n).port := by
  unfold State.post State.inReset
  rw [port, period]
  split
  · exact port
  · rfl

theorem State.postAll_port_congr {s t : State} (port : s.port = t.port) (period : s.resetUnit = t.resetUnit)
    (ns : List Notice) : (s.postAll ns).port = (t.postAll ns).port := by
  induction ns generalizing s t with
  | nil => exact port
  | cons n ns ih =>
    exact ih (State.post_port_congr port period n) (by rw [State.post_resetUnit, State.post_resetUnit, period])

theorem State.postAll_frame (s : State) (ns : List Notice) : s.postAll ns = { s with port := (s.postAll ns).port } := by
  induction ns generalizing s with
  | nil => rfl
  | cons n ns ih =>
    rw [State.postAll_cons, ih, State.post_frame]

/-! ### The grace (R96, R98) -/

theorem Change.outstanding_eq (c : Change) :
    c.outstanding = ((List.range 16).map (fun k => k + 1)).filter (fun a => a ∈ c.required ∧ a ∉ c.acked) := by
  refine List.filter_congr fun a _ => ?_
  rw [Bool.eq_iff_iff]
  simp

theorem State.newTagFor_eq (s : State) (c : Change) (a : Nat) :
    s.newTagFor c a = (s.screenOf a).bind (fun i => (c.entries.find? (fun e => e.screen == i)).bind (fun e =>
      match e.instr with | .swap tag => some tag | _ => none)) := by
  unfold State.newTagFor
  cases s.screenOf a with
  | none => rfl
  | some i =>
    have found : c.entries.find? (fun e => e.screen == i) = entryOf c.entries i := rfl
    simp only [Option.bind_some, found]
    cases entryOf c.entries i <;> rfl

theorem heldTagsOf_eq (liveTag : Nat) (newTag lastTag : Option Nat) :
    heldTagsOf liveTag newTag lastTag
      = (([liveTag] ++ newTag.toList ++ lastTag.toList).filter (fun n => n ≠ 0)).dedup := by
  unfold heldTagsOf
  exact congrArg List.dedup (List.filter_congr fun n _ => (decide_not ..).symm)

/-- R98: the live tag a mark finds for the tile of an address. -/
def State.liveTagAt (s : State) (a : Nat) : Nat :=
  match s.screenOf a with
  | some i => (s.screens.get i).liveTag
  | none => 0

theorem State.forceTile_eq (s : State) (c : Change) (t : Tile) :
    s.forceTile c t =
      if t.address ∈ c.outstanding then
        { t with
          state := .out
          heldTags := (([s.liveTagAt t.address] ++ (s.newTagFor c t.address).toList ++ t.lastTag.toList).filter
            (fun n => n ≠ 0)).dedup }
      else t := by
  unfold State.forceTile
  rw [heldTagsOf_eq]
  exact if_congr List.contains_iff_mem rfl rfl

theorem State.testedMark_forced {s : State} {c : Change} (hc : s.change = some c)
    (waits : ¬ ∀ a ∈ c.required, a ∈ c.acked) (whole : c.whole = true)
    (late : s.params.graceSweeps ≤ c.markCount + 1) (b : Boundary) (flags : MarkFlags) :
    s.testedMark b flags true
      = (s.forceOut b c).commitMark b flags { c with markCount := c.markCount + 1 } := by
  simp only [State.testedMark, hc, if_neg (mt Change.whollyAcked_iff.mp waits), whole, Bool.true_and, if_true,
    if_pos late]

theorem State.linkCase_forced {s : State} (active : s.bus.link = .active) (grace : s.graceEnds = true) :
    s.linkCase = .forced := by
  simp only [State.linkCase, active, grace, if_true]

/-- Settles O36. -/
theorem graceForcesTheCommit : Obligations.GraceForcesTheCommit := by
  unfold Obligations.GraceForcesTheCommit
  intro s b due c hdue clear marks active hc outstanding whole late failed newTag liveTag out told
  have flying : s.change ≠ none := by simp [hc]
  have waits : ¬ ∀ a ∈ c.required, a ∈ c.acked := by
    obtain ⟨a, ha, -, -, unacked⟩ := outstanding
    exact fun all => unacked (all a ha)
  let notices : List Notice := failed.map (fun a => .tileOut a (s.screenOf a) b.number .noAck)
  let kept : Change := { c with required := c.required.filter (· ∈ c.acked) }
  have isTold : told = out.postAll notices := (List.foldl_map ..).symm
  obtain ⟨port, isPort⟩ : ∃ p, (out.postAll notices).port = p := ⟨_, rfl⟩
  have toldEq : told = { out with port := port } := by rw [isTold, State.postAll_frame, isPort]
  have case : s.markCase = .forced := by
    rw [Marks.markCase marks]
    exact State.linkCase_forced active (State.graceEnds_iff.mpr ⟨c, hc, waits, whole, late⟩)
  have same : exec .forcedCommit s = exec .controllerBoundary s := congrArg _ (clear.controllerIf case)
  have isOut : s.bus.tiles.map (s.forceTile c) = out.bus.tiles := by
    refine List.map_congr_left fun t _ => ?_
    rw [s.forceTile_eq, s.newTagFor_eq, c.outstanding_eq]
    rfl
  have forced : exec .controllerBoundary s = .next ((State.forceOut { s with bus := { s.bus with
      controllerDue := due, quietCount := 0 } } b c).commitMark b MarkFlags.clear
        { c with markCount := c.markCount + 1 }) := by
    rw [clear.exec hdue case]
    rw [State.markFor_forced (s := s.withControllerDue due) clear.running,
      if_neg (not_couldRest_of_change (s := s.withControllerDue due) flying)]
    exact congrArg _ (State.testedMark_forced (s := { s with bus := { s.bus with
      controllerDue := due, quietCount := 0 } }) hc waits whole late b _)
  have clear' : NoClearing { told with change := some kept } := by
    rw [toldEq]
    refine ⟨clear.running, fun i => mt (fun clearing => ?_) (clear.kept i)⟩
    obtain ⟨mark, found⟩ := clearing
    refine ⟨mark, found.imp_right (Or.imp_right fun all a ha => ?_)⟩
    obtain ⟨t, ht, address, inService⟩ := all a ha
    obtain ⟨u, hu, rfl⟩ := List.mem_map.mp ht
    split at address
    case isTrue gone => simp [gone] at inService
    case isFalse stays => exact ⟨u, hu, address, by simpa [stays] using inService⟩
  have commits : exec .controllerBoundary { told with change := some kept }
      = .next (State.withCommitMark { told with
          change := some kept, bus := { told.bus with controllerDue := due, quietCount := 0 } } b kept false false false
            true) := by
    rw [toldEq] at clear' ⊢
    exact exec_acked clear' (marks.imp_right fun ⟨releasing, held, _⟩ => ⟨releasing, held, by simp⟩) active hdue rfl
      fun a ha => by simpa using (List.mem_filter.mp ha).2
  have forcedOut : State.forceOut { s with bus := { s.bus with controllerDue := due, quietCount := 0 } } b c
      = { told with bus := { told.bus with controllerDue := due, quietCount := 0 } } := by
    have list : c.outstanding.map (fun a => Notice.tileOut a (s.screenOf a) b.number .noAck) = notices := by
      rw [c.outstanding_eq]
    let dueTaken : State := { s with bus := { s.bus with controllerDue := due, quietCount := 0 } }
    have posted := State.postAll_port_congr (s := dueTaken.updTiles (dueTaken.forceTile c)) (t := out) rfl rfl notices
    rw [isPort] at posted
    have tiles : s.bus.tiles.map (dueTaken.forceTile c) = out.bus.tiles := isOut
    change (dueTaken.updTiles (dueTaken.forceTile c)).postAll
      (c.outstanding.map (fun a => Notice.tileOut a (s.screenOf a) b.number .noAck)) = _
    rw [list, State.postAll_frame, posted, State.updTiles, toldEq]
    change { dueTaken with bus := { dueTaken.bus with tiles := s.bus.tiles.map (dueTaken.forceTile c) }, port := port } = _
    rw [tiles]
  refine ⟨_, same.trans forced, forced, commits.trans ?_⟩
  rw [forcedOut, State.commitMark_eq]
  · rw [toldEq]
    have carries : decide (s.bus.link = .active) = true := decide_eq_true active
    change _ = Host.Outcome.next (State.withCommitMark _ b _ false false false (decide (s.bus.link = .active)))
    rw [carries]
    rfl
  · rw [toldEq]
    exact clear.running

end Sys2Proof.Machine
end

section
/-!
Partial marks (05, section 5.6): what keeps them from being due to be cleared, and the boundaries at which nothing commits.
-/

namespace Sys2Proof.Machine

set_option Elab.async false

/-! ### Partial marks that a step leaves uncleared -/

/-- A tile of the screen is known not to be IN, and the policy is not SHOW_TORN: its mark is not to be cleared. -/
def Torn (s : State) (i : Fin 4) : Prop :=
  s.params.partialPolicy ≠ .showTorn ∧ (s.screens.get i).setup ≠ none
    ∧ ∃ a ∈ (s.screens.get i).tiles, ∀ t ∈ s.bus.tiles, t.address = a → t.state ≠ .inService

/-- A step that gives no screen a partial mark that is due to be cleared. -/
structure MarksKept (s t : State) : Prop where
  policy : t.params.partialPolicy = s.params.partialPolicy := by rfl
  setup : ∀ i, (t.screens.get i).setup = (s.screens.get i).setup := by intros; rfl
  inService : ∀ x ∈ t.bus.tiles, x.state = .inService →
    ∃ y ∈ s.bus.tiles, y.address = x.address ∧ y.state = .inService := by exact fun x hx h => ⟨x, hx, rfl, h⟩
  mark : ∀ i, (t.screens.get i).partialMark = true → (s.screens.get i).partialMark = true ∨ Torn t i := by
    exact fun i h => .inl h

theorem Screen.tiles_congr {c d : Screen} (h : c.setup = d.setup) : c.tiles = d.tiles := by
  simp only [Screen.tiles, h]

theorem Torn.mono {s t : State} {i : Fin 4} (torn : Torn s i) (policy : t.params.partialPolicy = s.params.partialPolicy)
    (setup : (t.screens.get i).setup = (s.screens.get i).setup)
    (inService : ∀ x ∈ t.bus.tiles, x.state = .inService → ∃ y ∈ s.bus.tiles, y.address = x.address ∧ y.state = .inService) :
    Torn t i := by
  obtain ⟨notShown, some, a, ha, out⟩ := torn
  refine ⟨by rwa [policy], by rwa [setup], a, by rwa [Screen.tiles_congr setup], fun x hx address isIn => ?_⟩
  obtain ⟨y, hy, same, isIn'⟩ := inService x hx isIn
  exact out y hy (same.trans address) isIn'

theorem MarksKept.torn {s t : State} (h : MarksKept s t) {i : Fin 4} (torn : Torn s i) : Torn t i :=
  torn.mono h.policy (h.setup i) h.inService

theorem MarksKept.trans {s t u : State} (h : MarksKept s t) (h' : MarksKept t u) : MarksKept s u where
  policy := h'.policy.trans h.policy
  setup i := (h'.setup i).trans (h.setup i)
  inService x hx inService := by
    obtain ⟨y, hy, same, inService'⟩ := h'.inService x hx inService
    obtain ⟨z, hz, same', inService''⟩ := h.inService y hy inService'
    exact ⟨z, hz, same'.trans same, inService''⟩
  mark i hi := by
    rcases h'.mark i hi with mark | torn
    · exact (h.mark i mark).imp_right h'.torn
    · exact .inr torn

theorem Torn.not_clearDue {s : State} {i : Fin 4} (h : Torn s i) : ¬ ClearDue s i := by
  obtain ⟨policy, setup, a, ha, out⟩ := h
  rintro ⟨-, none | torn | all⟩
  · exact setup none
  · exact policy torn
  · obtain ⟨t, ht, address, inService⟩ := all a ha
    exact out t ht address inService

theorem MarksKept.not_clearDue {s t : State} (h : MarksKept s t) (none : ∀ i, ¬ ClearDue s i) (i : Fin 4) :
    ¬ ClearDue t i := by
  intro due
  rcases h.mark i due.1 with mark | torn
  · refine none i ⟨mark, ?_⟩
    obtain ⟨-, found⟩ := due
    rw [h.setup, h.policy, Screen.tiles_congr (h.setup i)] at found
    refine found.imp_right (Or.imp_right fun all a ha => ?_)
    obtain ⟨x, hx, address, inService⟩ := all a ha
    obtain ⟨y, hy, same, inService'⟩ := h.inService x hx inService
    exact ⟨y, hy, same.trans address, inService'⟩
  · exact torn.not_clearDue due

theorem MarksKept.ofPost (s : State) (n : Notice) : MarksKept s (s.post n) := by
  rw [State.post_frame]
  exact {}

theorem MarksKept.ofPostAll (s : State) (ns : List Notice) : MarksKept s (s.postAll ns) := by
  rw [State.postAll_frame]
  exact {}

theorem MarksKept.ofBuild (s : State) (firing : Option Firing) (carried : List Take) (takeover : Bool) :
    MarksKept s (s.build firing carried takeover) := by
  rw [State.build_eq s firing carried takeover rfl rfl]
  split
  · exact { setup := fun i => by simp [State.spendWork], mark := fun i h => .inl (by simpa [State.spendWork] using h) }
  · rw [State.handOver_eq _ _ (fun _ => rfl)]
    exact { setup := fun i => by simp [State.spendWork], mark := fun i h => .inl (by simpa [State.spendWork] using h) }

theorem MarksKept.ofComposeWork (s : State) : MarksKept s s.composeWork := by
  unfold State.composeWork
  split
  · exact .ofBuild ..
  · exact {}

theorem State.tileAfterMark_same (s : State) (given : Four (Option MarkInstr)) (t : Tile) :
    (s.tileAfterMark given t).address = t.address ∧ (s.tileAfterMark given t).state = t.state := by
  unfold State.tileAfterMark
  split <;> exact ⟨rfl, rfl⟩

theorem MarksKept.ofPutMark (s : State) (b : Boundary) (flags : MarkFlags) (given : Four (Option MarkInstr)) :
    MarksKept s (s.putMark b flags given) where
  inService x hx inService := by
    obtain ⟨y, hy, rfl⟩ := List.mem_map.mp hx
    obtain ⟨address, state⟩ := s.tileAfterMark_same given y
    exact ⟨y, hy, address.symm, state ▸ inService⟩

theorem MarksKept.ofAfterCommit (s : State) (c : Change) : MarksKept s (s.afterCommit c) :=
  MarksKept.trans (t := s.updScreens (fun i sc => { sc with restore := sc.restore || c.initialBlanks.contains i }))
    { setup := fun i => by simp, mark := fun i h => .inl (by simpa using h) } (.ofComposeWork _)

/-- Each tile address stands once in the table (R103). -/
def TilesApart (s : State) : Prop := (s.bus.tiles.map (fun t => t.address)).Nodup

theorem TilesApart.torn_of_hasOut {s : State} (apart : TilesApart s) {i : Fin 4} (out : Machine.hasOut s i = true)
    (policy : s.params.partialPolicy = .blankScreen) : Torn s i := by
  obtain ⟨a, ha, isOut⟩ := List.any_eq_true.mp out
  refine ⟨by simp [policy], fun none => by simp [Screen.tiles, none] at ha, a, ha, fun t ht address inService => ?_⟩
  obtain ⟨u, hu, out⟩ := List.any_eq_true.mp isOut
  simp only [Bool.and_eq_true, beq_iff_eq, decide_eq_true_eq] at out
  have same : t = u := List.inj_on_of_nodup_map apart ht hu (address.trans out.1.symm)
  rw [same, out.2] at inService
  cases inService

theorem State.tileAtCommit_same (s : State) (c : Change) (t : Tile) :
    (s.tileAtCommit c t).address = t.address ∧ (s.tileAtCommit c t).state = t.state := by
  rw [s.tileAtCommit_eq]
  split
  · exact ⟨rfl, rfl⟩
  split <;> exact ⟨rfl, rfl⟩

/-- The partial mark after a commit: a new one only for a screen with a tile OUT (R99). -/
theorem State.partialAfter_mark {s : State} {onBus : Bool} {o : Option Entry} {mark : Bool}
    (h : s.partialAfter onBus o mark = true) : mark = true ∨ ∃ e ∈ o, tornBlank s e.screen = true := by
  cases o with
  | none => exact .inl h
  | some e =>
    cases hi : e.instr with
    | none => exact .inl (by simpa [State.partialAfter, hi] using h)
    | blank => simp [State.partialAfter, hi] at h
    | swap tag =>
      rw [State.partialAfter_swap onBus hi] at h
      split at h
      case isTrue torn => exact .inr ⟨e, rfl, (Bool.and_eq_true_iff.mp torn).2⟩
      case isFalse => exact .inl (Bool.and_eq_true_iff.mp h).2

theorem MarksKept.ofCommitChange {s : State} (apart : TilesApart s) (b : Boundary) (c : Change) (onBus : Bool) :
    MarksKept s (s.commitChange b c onBus) := by
  have screen : ∀ i, (s.commitChange b c onBus).screens.get i = s.screenAfter c onBus i (s.screens.get i) := fun i =>
    Four.get_mapIdx ..
  have setup : ∀ i, ((s.commitChange b c onBus).screens.get i).setup = (s.screens.get i).setup := fun i => by
    rw [screen]
    exact Screen.committed_setup ..
  have inService : ∀ x ∈ (s.commitChange b c onBus).bus.tiles, x.state = .inService →
      ∃ y ∈ s.bus.tiles, y.address = x.address ∧ y.state = .inService := fun x hx isIn => by
    cases onBus with
    | false => exact ⟨x, hx, rfl, isIn⟩
    | true =>
      obtain ⟨y, hy, rfl⟩ := List.mem_map.mp hx
      obtain ⟨address, state⟩ := s.tileAtCommit_same c y
      exact ⟨y, hy, address.symm, state ▸ isIn⟩
  refine { setup := setup, inService := inService, mark := fun i h => ?_ }
  rw [screen] at h
  refine (State.partialAfter_mark h).imp_right fun ⟨e, he, torn⟩ => ?_
  rw [entryOf_screen he] at torn
  obtain ⟨out, policy⟩ := Bool.and_eq_true_iff.mp torn
  exact (apart.torn_of_hasOut out (of_decide_eq_true policy)).mono rfl (setup i) inService

theorem MarksKept.ofCommitMark {s : State} (apart : TilesApart s) (b : Boundary) (flags : MarkFlags) (c : Change) :
    MarksKept s (s.commitMark b flags c) :=
  ((MarksKept.ofCommitChange apart b c true).trans (.ofPutMark _ b flags _)).trans (.ofAfterCommit _ c)

theorem MarksKept.ofCommitNotional {s : State} (apart : TilesApart s) (b : Boundary) : MarksKept s (s.commitNotional b) := by
  unfold State.commitNotional
  cases s.change with
  | none => exact {}
  | some c => exact (MarksKept.ofCommitChange apart b c false).trans (.ofAfterCommit _ c)

theorem State.forceTile_same (s : State) (c : Change) (t : Tile) :
    (s.forceTile c t).address = t.address ∧ ((s.forceTile c t).state = .inService → t.state = .inService) := by
  unfold State.forceTile
  split
  · exact ⟨rfl, fun h => by cases h⟩
  · exact ⟨rfl, id⟩

theorem MarksKept.ofForceOut (s : State) (b : Boundary) (c : Change) : MarksKept s (s.forceOut b c) := by
  refine MarksKept.trans (t := s.updTiles (s.forceTile c)) { inService := fun x hx inService => ?_ } (.ofPostAll _ _)
  obtain ⟨y, hy, rfl⟩ := List.mem_map.mp hx
  obtain ⟨address, state⟩ := s.forceTile_same c y
  exact ⟨y, hy, address.symm, state inService⟩

theorem TilesApart.forceOut {s : State} (apart : TilesApart s) (b : Boundary) (c : Change) : TilesApart (s.forceOut b c) := by
  unfold TilesApart State.forceOut
  rw [State.postAll_frame]
  change ((s.bus.tiles.map (s.forceTile c)).map _).Nodup
  have same : (s.bus.tiles.map (s.forceTile c)).map (fun t => t.address) = s.bus.tiles.map (fun t => t.address) := by
    rw [List.map_map]
    exact List.map_congr_left fun t _ => (s.forceTile_same c t).1
  rw [same]
  exact apart

theorem MarksKept.ofPlainMark (s : State) (b : Boundary) (flags : MarkFlags) : MarksKept s (s.plainMark b flags) :=
  .ofPutMark ..

theorem MarksKept.ofTestedMark {s : State} (apart : TilesApart s) (b : Boundary) (flags : MarkFlags) (rises : Bool) :
    MarksKept s (s.testedMark b flags rises) := by
  unfold State.testedMark
  cases s.change with
  | none => exact .ofPlainMark ..
  | some c =>
    simp only
    split
    · exact .ofCommitMark apart ..
    split
    · split
      · exact (MarksKept.ofForceOut s b c).trans (.ofCommitMark (apart.forceOut b c) ..)
      · exact MarksKept.trans {} (.ofPlainMark ..)
    · exact .ofPlainMark ..

theorem MarksKept.ofMarkUncounted {s : State} (apart : TilesApart s) (b : Boundary) (flags : MarkFlags) (tested : Bool) :
    MarksKept s (s.markUncounted b flags tested) := by
  unfold State.markUncounted
  cases s.change with
  | none => exact .ofPlainMark ..
  | some c =>
    simp only
    split
    · exact .ofPlainMark ..
    · exact .ofTestedMark apart ..

theorem MarksKept.ofSetLink (s : State) (link : LinkState) (n : SweepNo) (cause : LinkCause) :
    MarksKept s (s.setLink link n cause) := by
  unfold State.setLink
  split
  · exact {}
  · exact MarksKept.trans {} (.ofPost ..)

theorem TilesApart.setLink {s : State} (apart : TilesApart s) (link : LinkState) (n : SweepNo) (cause : LinkCause) :
    TilesApart (s.setLink link n cause) := by
  unfold TilesApart State.setLink
  split
  · exact apart
  · rw [State.post_bus]
    exact apart

theorem MarksKept.ofAbortSurvey (s : State) (cause : SurveyAbort) : MarksKept s (s.abortSurvey cause) := by
  unfold State.abortSurvey
  split
  · refine MarksKept.trans (t := { s with bus := s.bus.dropSurveyPoll, survey := { s.survey with running := false } }) ?_
      (.ofPost ..)
    rw [PanelBus.dropSurveyPoll_eq]
    exact {}
  · exact {}

/-- What a boundary calls for gives no screen a partial mark that is due to be cleared. -/
theorem MarksKept.ofMarkFor {s : State} (apart : TilesApart s) (b : Boundary) (m : MarkCase) : MarksKept s (s.markFor b m) := by
  cases m with
  | idle => exact {}
  | rest => exact {}
  | notional => exact .ofCommitNotional apart b
  | stops =>
    refine (MarksKept.ofCommitNotional apart b).trans (MarksKept.trans ?_ (.ofPost ..))
    exact {}
  | ordinary | forced => exact MarksKept.trans (t := s.countRest) {} (.ofTestedMark (s := s.countRest) apart ..)
  | quietEntry =>
    exact MarksKept.trans (t := { s with bus := { s.bus with quietCount := 0 } }) {}
      ((MarksKept.ofSetLink ..).trans ((MarksKept.ofAbortSurvey ..).trans (.ofPlainMark ..)))
  | refresh => exact .ofPlainMark ..
  | quietCommit => exact .ofMarkUncounted apart ..
  | wake =>
    exact MarksKept.trans (t := { s with bus := { s.bus with sinceWake := 0 } }) {}
      ((MarksKept.ofSetLink ..).trans (.ofPlainMark ..))
  | waking =>
    exact MarksKept.trans (t := { s with bus := { s.bus with sinceWake := s.bus.sinceWake + 1 } }) {}
      (.ofMarkUncounted (s := { s with bus := { s.bus with sinceWake := s.bus.sinceWake + 1 } }) apart ..)
  | wakeDone => exact (MarksKept.ofSetLink ..).trans (.ofMarkUncounted (apart.setLink ..) ..)

/-! ### Clearing partial marks (R100, log 10) -/

theorem State.build_withControllerDue (s : State) (due : List Boundary) (firing : Option Firing) (carried : List Take)
    (takeover : Bool) :
    (s.withControllerDue due).build firing carried takeover = (s.build firing carried takeover).withControllerDue due := by
  rw [State.build_eq (s.withControllerDue due) firing carried takeover rfl rfl,
    State.build_eq s firing carried takeover rfl rfl, apply_ite (State.withControllerDue · due),
    State.handOver_eq _ _ (fun _ => rfl), State.handOver_eq _ _ (fun _ => rfl)]
  rfl

theorem State.composeWork_withControllerDue (s : State) (due : List Boundary) :
    (s.withControllerDue due).composeWork = s.composeWork.withControllerDue due := by
  unfold State.composeWork
  rw [State.build_withControllerDue, apply_ite (State.withControllerDue · due)]
  rfl

theorem State.withCleared_withControllerDue (s : State) (due : List Boundary) (which : Fin 4 → Bool) :
    (s.withControllerDue due).withCleared which = (s.withCleared which).withControllerDue due :=
  State.composeWork_withControllerDue { s with screens := s.screens.mapIdx (fun i c =>
    if which i then { c with partialMark := false, reissue := c.reissue || c.setup.isSome } else c) } due

theorem State.clearPartial_eq (s : State) (which : List (Fin 4)) :
    s.clearPartial which = s.withCleared (fun i => which.contains i) := rfl

theorem State.contains_clearDue (s : State) : (fun i => s.clearDue.contains i) = fun i => decide (ClearDue s i) := by
  funext i
  rw [Bool.eq_iff_iff, List.contains_iff_mem, decide_eq_true_iff, State.mem_clearDue]

/-- What was found to be cleared is cleared. -/
theorem State.withCleared_settled (s : State) (i : Fin 4) : ¬ ClearDue (s.withCleared (fun j => decide (ClearDue s j))) i := by
  refine (MarksKept.ofComposeWork _).not_clearDue (fun j => ?_) i
  intro due
  by_cases found : ClearDue s j
  · obtain ⟨mark, -⟩ := due
    simp [found] at mark
  · refine found ?_
    simp [ClearDue, found] at due

theorem State.withCleared_controllerDue (s : State) (which : Fin 4 → Bool) :
    (s.withCleared which).bus.controllerDue = s.bus.controllerDue := by
  have frame := congrArg (fun t => t.bus.controllerDue) (s.withCleared_withControllerDue s.bus.controllerDue which)
  exact frame

/-- R100, log 10: what a boundary's mark finds, with marks found to be cleared. -/
theorem State.beforeMark_found {s : State} (running : s.resetUnit.period = none) (some : ∃ i, ClearDue s i) :
    s.beforeMark = if Config.partialClearFirst s.freeCount = true then s.spendFree.clearPartial s.clearDue
      else s.spendFree := by
  have found : s.clearDue.isEmpty = false := by
    obtain ⟨i, hi⟩ := some
    rw [List.isEmpty_eq_false_iff]
    exact List.ne_nil_of_mem (State.mem_clearDue.mpr hi)
  unfold State.beforeMark State.clearsFirst
  rw [found, State.inReset_eq_false running, if_neg (by simp), Bool.not_false, Bool.true_and]

/-- A boundary of a state with marks found to be cleared before its mark. -/
theorem exec_clearsFirst {s : State} (running : s.resetUnit.period = none) (apart : TilesApart s) {b : Boundary}
    {due : List Boundary} (hdue : s.bus.controllerDue = b :: due) (some : ∃ i, ClearDue s i)
    (first : Config.partialClearFirst s.freeCount = true) :
    exec .controllerBoundary s = exec .controllerBoundary
      (State.withCleared { s with freeCount := s.freeCount + 1 } (fun i => decide (ClearDue s i))) := by
  let cleared := State.withCleared { s with freeCount := s.freeCount + 1 } (fun i => decide (ClearDue s i))
  have calm : Calm { s with freeCount := s.freeCount + 1 } cleared :=
    (calm_composeWork _).after (calm_updScreens { s with freeCount := s.freeCount + 1 } _ fun i c => by split <;> rfl)
  have settled : NoClearing cleared := ⟨calm.period.trans running, State.withCleared_settled { s with
    freeCount := s.freeCount + 1 }⟩
  have waits : cleared.bus.controllerDue = b :: due := (State.withCleared_controllerDue ..).trans hdue
  have before : (s.withControllerDue due).beforeMark = cleared.withControllerDue due := by
    rw [State.beforeMark_found (s := s.withControllerDue due) running some,
      if_pos (show Config.partialClearFirst (s.withControllerDue due).freeCount = true from first), State.clearPartial_eq,
      State.contains_clearDue]
    exact State.withCleared_withControllerDue { s with freeCount := s.freeCount + 1 } due _
  rw [execControllerBoundary_cons hdue, execControllerBoundary_cons waits,
    (settled.withControllerDue due).handles, State.controllerHandles, before]
  have apart' : TilesApart (cleared.withControllerDue due) := by
    unfold TilesApart
    rw [show (cleared.withControllerDue due).bus.tiles.map (fun t => t.address) = _ from calm.addresses]
    exact apart
  have after := State.clearDue_eq_nil ((MarksKept.ofMarkFor apart' b (cleared.withControllerDue due).markCase).not_clearDue
    settled.kept)
  refine congrArg _ (if_pos ?_)
  simp [after]

/-- A boundary of a state with marks found to be cleared after its mark. -/
theorem exec_clearsAfter {s : State} (running : s.resetUnit.period = none) {b : Boundary}
    {due : List Boundary} (hdue : s.bus.controllerDue = b :: due) (some : ∃ i, ClearDue s i)
    (after : Config.partialClearFirst s.freeCount = false) {t : State}
    (ht : (State.withControllerDue { s with freeCount := s.freeCount + 1 } due).markFor b
      (State.withControllerDue { s with freeCount := s.freeCount + 1 } due).markCase = t)
    (still : ∀ i, ClearDue t i ↔ ClearDue s i) (period : t.resetUnit.period = none) :
    exec .controllerBoundary s = .next (t.withCleared (fun i => decide (ClearDue s i))) := by
  have found : s.clearDue ≠ [] := by
    obtain ⟨i, hi⟩ := some
    exact List.ne_nil_of_mem (State.mem_clearDue.mpr hi)
  have before : (s.withControllerDue due).beforeMark
      = State.withControllerDue { s with freeCount := s.freeCount + 1 } due := by
    rw [State.beforeMark_found (s := s.withControllerDue due) running some,
      if_neg (show ¬ Config.partialClearFirst (s.withControllerDue due).freeCount = true by simp [after])]
    rfl
  have remain : s.clearDue.filter (fun i => t.clearDue.contains i) = s.clearDue := by
    rw [List.filter_eq_self]
    intro i hi
    rw [List.contains_iff_mem, State.mem_clearDue, still]
    exact State.mem_clearDue.mp hi
  rw [execControllerBoundary_cons hdue, State.controllerHandles, before, ht, State.afterMark]
  change Host.Outcome.next (if t.inReset || (s.clearDue.filter (fun i => t.clearDue.contains i)).isEmpty then t
    else t.clearPartial (s.clearDue.filter (fun i => t.clearDue.contains i))) = _
  rw [remain, if_neg, State.clearPartial_eq, State.contains_clearDue]
  simp [State.inReset_eq_false period, found]

/-! ### Marks without a commit (R87 to R89, R91, R96, R100, R108) -/

theorem State.testedMark_none {s : State} (quiet : s.change = none) (b : Boundary) (flags : MarkFlags) (rises : Bool) :
    s.testedMark b flags rises = s.plainMark b flags := by
  simp only [State.testedMark, quiet]

/-- A mark of an ACTIVE link with no change in flight. -/
theorem State.markFor_unchanged {s : State} (running : s.resetUnit.period = none) (active : s.bus.link = .active)
    (quiet : s.change = none) (b : Boundary) :
    s.markFor b .ordinary = State.withMark { s with bus := { s.bus with
      quietCount := if CouldRest s then s.bus.quietCount + 1 else 0 } } b false false false true := by
  rw [State.markFor_ordinary running, State.testedMark_none (by exact quiet), State.plainMark_eq (by exact running)]
  have carries : decide (s.bus.link = .active) = true := decide_eq_true active
  change State.withMark _ b false false false (decide (s.bus.link = .active)) = _
  rw [carries]

theorem State.markCase_unchanged {s : State} (driving : s.own.state = .driving) (active : s.bus.link = .active)
    (quiet : s.change = none) (early : s.inReset = true ∨ (CouldRest s → s.bus.quietCount + 1 < s.params.quietDelay)) :
    s.markCase = .ordinary := by
  rw [Marks.markCase (.inl driving)]
  refine State.linkCase_active active ?_ early
  rw [← Bool.not_eq_true, State.graceEnds_iff]
  rintro ⟨c, hc, -⟩
  rw [quiet] at hc
  cases hc

theorem State.markCase_idle {s : State} (h : (s.own.state = .shadow ∧ s.change = none) ∨ s.own.state = .granted) :
    s.markCase = .idle := by
  rcases h with ⟨shadow, quiet⟩ | granted
  · simp [State.markCase, shadow, quiet]
  · simp [State.markCase, granted]

/-- A mark that commits nothing changes no partial mark and no tile's standing. -/
theorem clearDue_withMark (s : State) (b : Boundary) (quiet wake takeover carries : Bool) (i : Fin 4) :
    ClearDue (s.withMark b quiet wake takeover carries) i ↔ ClearDue s i := by
  have tile : ∀ a, (∃ t ∈ (s.withMark b quiet wake takeover carries).bus.tiles, t.address = a ∧ t.state = .inService)
      ↔ ∃ t ∈ s.bus.tiles, t.address = a ∧ t.state = .inService := by
    intro a
    simp only [State.withMark, State.withSent, List.mem_map, exists_exists_and_eq_and]
    refine exists_congr fun t => and_congr_right fun _ => ?_
    split <;> exact Iff.rfl
  simp only [ClearDue, tile]
  exact Iff.rfl

/-- Settles O34. -/
theorem marksWithoutACommit : Obligations.MarksWithoutACommit := by
  unfold Obligations.MarksWithoutACommit
  refine ⟨fun s b due hdue clear => ⟨fun driving active quiet early => ?_, fun rests => ?_⟩,
    fun s b due c hdue clear marks active hc waits early => ?_, fun s b due hdue running some addresses => ?_,
    fun s b due hdue period quiet => ?_⟩
  · rw [clear.exec hdue (State.markCase_unchanged (s := s.withControllerDue due) driving active quiet (.inr early)),
      State.markFor_unchanged (s := s.withControllerDue due) clear.running active quiet]
    rfl
  · exact clear.exec hdue (State.markCase_idle (s := s.withControllerDue due) rests)
  · have flying : s.change ≠ none := by simp [hc]
    have notCould : ¬ CouldRest (s.withControllerDue due) :=
      not_couldRest_of_change (s := s.withControllerDue due) flying
    have case : (s.withControllerDue due).markCase = .ordinary := by
      rw [Marks.markCase (s := s.withControllerDue due) marks]
      refine State.linkCase_active active ?_ (.inr fun rest => absurd rest notCould)
      rw [← Bool.not_eq_true, State.graceEnds_iff]
      rintro ⟨d, hd, -, whole, late⟩
      obtain rfl : c = d := Option.some.inj (hc.symm.trans hd)
      exact absurd (early whole) (not_lt.mpr late)
    rw [clear.exec hdue case, State.markFor_ordinary (s := s.withControllerDue due) clear.running, if_neg notCould]
    refine (congrArg _ (State.testedMark_waiting (s := { s with bus := { s.bus with
      controllerDue := due, quietCount := 0 } }) hc waits early b _)).trans ?_
    rw [State.plainMark_eq (by exact clear.running)]
    have carries : decide (s.bus.link = .active) = true := decide_eq_true active
    change Host.Outcome.next (State.withMark _ b false false false (decide (s.bus.link = .active))) = _
    rw [carries]
  · intro found spent went
    have apart : TilesApart s := by
      unfold TilesApart
      rw [addresses]
      decide
    refine ⟨fun first => exec_clearsFirst running apart hdue some first, fun after => ⟨fun rests => ?_,
      fun driving active quiet early => ?_⟩⟩
    · refine exec_clearsAfter running hdue some after ?_ (fun i => Iff.rfl) running
      rw [State.markCase_idle (s := went) rests]
      rfl
    · refine exec_clearsAfter running hdue some after ?_ (fun i => clearDue_withMark ..) running
      rw [State.markCase_unchanged (s := went) driving active quiet (.inr early),
        State.markFor_unchanged (s := went) running active quiet]
      rfl
  · have reset : s.inReset = true := State.inReset_eq_true period
    have keeps : ∀ (u : State), u.resetUnit = s.resetUnit → u.change = none → ∀ flags : MarkFlags, flags.takeover = false →
        u.plainMark b flags = u.withKeepAlive b flags.quiet flags.wake := fun u resets none flags kept =>
      State.plainMark_reset (by rw [resets]; exact period) none b kept
    have unswapped : ∀ u : State, u.change = none → ∀ flags tested, u.markUncounted b flags tested = u.plainMark b flags :=
      fun u none flags tested => by simp only [State.markUncounted, none]
    refine ⟨fun rests => ?_, fun driving => ⟨fun active => ?_, fun isQuiet => ⟨fun late => ?_, fun early => ?_⟩,
      fun waking => ⟨fun early => ?_, fun late => ?_⟩⟩⟩
    · exact exec_reset period hdue (State.markCase_idle (s := s.withControllerDue due) (rests.imp_left fun h => ⟨h, quiet⟩))
    · rw [exec_reset period hdue (State.markCase_unchanged (s := s.withControllerDue due) driving active quiet (.inl reset))]
      have counted : (s.withControllerDue due).countRest
          = { s with bus := { s.bus with controllerDue := due, quietCount := 0 } } := by
        have test : ((s.withControllerDue due).couldRest && !(s.withControllerDue due).inReset) = false := by
          rw [show (s.withControllerDue due).inReset = true from reset]
          simp
        unfold State.countRest
        rw [test]
        rfl
      change Host.Outcome.next ((s.withControllerDue due).countRest.testedMark b MarkFlags.clear true) = _
      rw [counted, State.testedMark_none (by exact quiet)]
      exact congrArg _ (keeps { s with bus := { s.bus with controllerDue := due, quietCount := 0 } } rfl quiet
        MarkFlags.clear rfl)
    · have case : s.markCase = .refresh := by
        rw [Marks.markCase (.inl driving), State.linkCase_quiet isQuiet quiet, if_pos late]
      have marked : exec .controllerBoundary s = .next ((s.withControllerDue due).withKeepAlive b true false) := by
        rw [exec_reset period hdue case]
        exact congrArg _ (keeps (s.withControllerDue due) rfl quiet { MarkFlags.clear with quiet := true } rfl)
      have same : exec .refreshMark s = exec .controllerBoundary s :=
        congrArg Host.Outcome.next (State.controllerIf_eq (by rw [State.beforeMark_reset period, case]))
      exact ⟨marked, same.trans marked⟩
    · have case : s.markCase = .rest := by
        rw [Marks.markCase (.inl driving), State.linkCase_quiet isQuiet quiet, if_neg (not_le.mpr early)]
      exact exec_reset period hdue case
    · have case : s.markCase = .waking := by
        rw [Marks.markCase (.inl driving), State.linkCase_waking waking, if_neg (not_le.mpr early)]
      rw [exec_reset period hdue case]
      refine congrArg _ ((unswapped { s with bus := { s.bus with
        controllerDue := due, sinceWake := s.bus.sinceWake + 1 } } quiet _ _).trans (keeps { s with bus := { s.bus with
        controllerDue := due, sinceWake := s.bus.sinceWake + 1 } } rfl quiet { MarkFlags.clear with wake := true } rfl))
    · intro woken
      have case : s.markCase = .wakeDone := by
        rw [Marks.markCase (.inl driving), State.linkCase_waking waking, if_pos late]
      have marked : exec .controllerBoundary s = .next woken := by
        rw [exec_reset period hdue case]
        change Host.Outcome.next ((State.setLink (s.withControllerDue due) .active b.number .wakeDone).markUncounted b
          MarkFlags.clear true) = _
        rw [State.setLink_reset (s := s.withControllerDue due) period, unswapped _ (by exact quiet)]
        exact congrArg _ (keeps { s with bus := { s.bus with controllerDue := due, link := .active } } rfl quiet
          MarkFlags.clear rfl)
      have same : exec .wakeDone s = exec .controllerBoundary s :=
        congrArg Host.Outcome.next (State.controllerIf_eq (by rw [State.beforeMark_reset period, case]))
      exact ⟨marked, same.trans marked⟩

end Sys2Proof.Machine
end

section
/-!
The tiles' answers and the closing of reply windows (05, sections 5.4, 5.7 and 5.8; 09, section 9.2).
-/

namespace Sys2Proof.Machine

set_option Elab.async false

/-! ### The reply window (R93) -/

theorem reached_iff {now due : ShowTime} : reached now due = true ↔ (now - due).toNat < 2 ^ 31 := decide_eq_true_iff

/-- R93: the reply window that is open now. -/
theorem State.openWindow_iff {s : State} {w : Window} :
    s.openWindow = some w ↔
      s.bus.window = some w ∧ (s.own.state = .driving ∨ s.own.state = .releasing)
        ∧ s.resetUnit.period = none ∧ w.answered = false
        ∧ (s.showClock - w.opens).toNat < 2 ^ 31 ∧ (w.closes - s.showClock).toNat < 2 ^ 31 := by
  unfold State.openWindow
  cases s.bus.window with
  | none => simp
  | some v =>
    have opens : (s.drives && !s.inReset && !v.answered && reached s.showClock v.opens && reached v.closes s.showClock) = true
        ↔ (s.own.state = .driving ∨ s.own.state = .releasing) ∧ s.resetUnit.period = none ∧ v.answered = false
          ∧ (s.showClock - v.opens).toNat < 2 ^ 31 ∧ (v.closes - s.showClock).toNat < 2 ^ 31 := by
      simp only [Bool.and_eq_true, State.drives_iff, Bool.not_eq_true', reached_iff, State.inReset,
        Option.isSome_eq_false_iff, Option.isNone_iff_eq_none, and_assoc]
    constructor
    · intro h
      simp only at h
      split at h
      case isTrue ok =>
        obtain rfl := Option.some.inj h
        exact ⟨rfl, opens.mp ok⟩
      case isFalse => cases h
    · rintro ⟨hw, ok⟩
      obtain rfl := Option.some.inj hw
      exact if_pos (opens.mpr ok)

theorem execAck_open {s : State} {w : Window} {frame : List Byte} {tile tag : Nat} (hw : s.openWindow = some w)
    (hf : parseAck frame = some (tile, tag)) :
    exec (.ack frame) s = if tile = w.tile ∧ tag = w.tag then .next (s.acknowledge w) else .next s := by
  simp only [exec, execAck, hw, hf]

theorem execAck_unheard {s : State} {frame : List Byte} (h : s.openWindow = none ∨ parseAck frame = none) :
    exec (.ack frame) s = .next s := by
  simp only [exec, execAck]
  rcases h with h | h
  · simp only [h]
  · cases s.openWindow <;> simp only [h]

/-- Settles O39. -/
theorem acknowledgementsAreTaken : Obligations.AcknowledgementsAreTaken := by
  unfold Obligations.AcknowledgementsAreTaken
  refine ⟨fun s w frame tile tag hw hf => ⟨fun other => ?_, fun hTile hTag kind => ?_⟩, fun s frame h => ?_,
    fun s w => State.openWindow_iff⟩
  · rw [execAck_open hw hf, if_neg]
    rintro ⟨hTile, hTag⟩
    rcases other with h | h
    · exact h hTile
    · exact h hTag
  · subst hTile hTag
    rw [execAck_open hw hf, if_pos ⟨rfl, rfl⟩]
    have window : s.bus.window = some w := (State.openWindow_iff.mp hw).1
    have answered : s.answerWindow = { s with bus := { s.bus with window := some { w with answered := true } } } := by
      unfold State.answerWindow
      rw [window]
      rfl
    unfold State.acknowledge
    rw [answered]
    rcases kind with kind | kind | kind <;> simp only [kind] <;> rfl
  · rcases h with h | h | ⟨w, hw, poll⟩
    · exact execAck_unheard (.inl h)
    · exact execAck_unheard (.inr h)
    · cases hf : parseAck frame with
      | none => exact execAck_unheard (.inr hf)
      | some p =>
        have none : s.acknowledge w = s := by
          unfold State.acknowledge
          rcases poll with poll | poll <;> simp only [poll]
        rw [execAck_open hw hf, none, ite_self]

/-! ### Polls (R104, R159, R160) -/

theorem execPollReply_open {s : State} {w : Window} {frame : List Byte} {a : PollAnswer} (hw : s.openWindow = some w)
    (hf : parsePollReply frame = some a) :
    exec (.pollReply frame) s = if a.tile = w.tile then .next (s.pollAnswered w a) else .next s := by
  simp only [exec, execPollReply, hw, hf]

theorem execPollReply_unheard {s : State} {frame : List Byte}
    (h : s.openWindow = none ∨ parsePollReply frame = none) : exec (.pollReply frame) s = .next s := by
  simp only [exec, execPollReply]
  rcases h with h | h
  · simp only [h]
  · cases s.openWindow <;> simp only [h]

/-- A tile that has answered a survey's poll, by the window it answered in (R159). -/
def Tile.seen (w : Window) (a : PollAnswer) (t : Tile) : Tile :=
  if t.address = w.tile ∧ w.frame = .surveyPoll then { t with presence := .present, capacity := some a.capacity } else t

theorem Tile.seen_same (w : Window) (a : PollAnswer) (t : Tile) :
    (t.seen w a).address = t.address ∧ (t.seen w a).state = t.state := by
  unfold Tile.seen
  split <;> exact ⟨rfl, rfl⟩

/-- What an answer to a poll leaves, but for an OUT tile's return (R104, R159). -/
def State.polled (s : State) (w : Window) (a : PollAnswer) : State :=
  { s with
    survey := if w.frame = .surveyPoll then
        { s.survey with found := s.survey.found.set (w.tile - 1) (.answered a.capacity a.status) }
      else s.survey
    bus := { s.bus with window := some { w with answered := true }, tiles := s.bus.tiles.map (Tile.seen w a) } }

theorem State.pollAnswered_eq {s : State} {w : Window} (window : s.bus.window = some w) (a : PollAnswer)
    (poll : w.frame = .outPoll ∨ w.frame = .surveyPoll) : s.pollAnswered w a = (s.polled w a).tileReturns w a := by
  have answered : s.answerWindow = { s with bus := { s.bus with window := some { w with answered := true } } } := by
    unfold State.answerWindow
    rw [window]
    rfl
  rcases poll with poll | poll
  · have tiles : s.bus.tiles.map (Tile.seen w a) = s.bus.tiles := by
      refine (List.map_congr_left fun t _ => ?_).trans (List.map_id _)
      simp [Tile.seen, poll]
    unfold State.pollAnswered State.polled
    simp only [poll, answered, tiles, reduceCtorEq, if_false]
  · have tiles : s.bus.tiles.map (Tile.seen w a) = s.bus.tiles.map (fun t =>
        if t.address = w.tile then { t with presence := .present, capacity := some a.capacity } else t) :=
      List.map_congr_left fun t _ => if_congr (and_iff_left poll) rfl rfl
    unfold State.pollAnswered State.polled
    rw [tiles]
    simp only [poll, answered, if_true]
    rfl

theorem State.isOut_polled (s : State) (w : Window) (a : PollAnswer) (tile : Nat) :
    (s.polled w a).isOut tile = s.isOut tile := by
  unfold State.isOut State.polled
  rw [List.any_map]
  refine congrArg (List.any s.bus.tiles) (funext fun t => ?_)
  obtain ⟨address, state⟩ := Tile.seen_same w a t
  simp only [Function.comp_apply, address, state]

/-- An OUT tile's return, as the statement describes it. -/
theorem State.tileReturns_polled (s : State) (w : Window) (a : PollAnswer) :
    (s.polled w a).tileReturns w a =
      let answered : State := { s.polled w a with bus := { (s.polled w a).bus with
        tiles := s.bus.tiles.map (fun t =>
          if s.isOut w.tile = true ∧ t.address = w.tile then (t.seen w a).returned else t.seen w a) } }
      if s.isOut w.tile then answered.post (.tileIn w.tile (s.screenOf w.tile) w.sweep a.liveTag a.pendingTag)
      else answered := by
  unfold State.tileReturns
  rw [State.isOut_polled]
  by_cases out : s.isOut w.tile = true
  · have tiles : (s.bus.tiles.map (Tile.seen w a)).map (fun t => if t.address = w.tile then t.returned else t)
        = s.bus.tiles.map (fun t =>
          if s.isOut w.tile = true ∧ t.address = w.tile then (t.seen w a).returned else t.seen w a) := by
      rw [List.map_map]
      refine List.map_congr_left fun t _ => ?_
      rw [Function.comp_apply, (Tile.seen_same w a t).1]
      exact if_congr (and_iff_right out).symm rfl rfl
    rw [if_pos out]
    simp only
    rw [if_pos out, ← tiles]
    rfl
  · have tiles : s.bus.tiles.map (Tile.seen w a) = s.bus.tiles.map (fun t =>
        if s.isOut w.tile = true ∧ t.address = w.tile then (t.seen w a).returned else t.seen w a) :=
      List.map_congr_left fun t _ => (if_neg fun both => out both.1).symm
    rw [if_neg out]
    simp only
    rw [if_neg out, ← tiles]
    rfl

/-- Settles O40. -/
theorem pollAnswersAndClosingWindows : Obligations.PollAnswersAndClosingWindows := by
  unfold Obligations.PollAnswersAndClosingWindows
  refine ⟨fun s w frame a hw hf tile poll => ?_, fun s frame h => ?_, fun s w hw running due => ?_⟩
  · intro returns seen answered
    have window : s.bus.window = some w := (State.openWindow_iff.mp hw).1
    have out : s.bus.tiles.any returns = s.isOut w.tile := by
      unfold State.isOut
      refine congrArg (List.any s.bus.tiles) (funext fun t => ?_)
      simp only [returns]
      rw [Bool.eq_iff_iff]
      simp
    have isSeen : ∀ t, t.seen w a = if seen t then { t with presence := .present, capacity := some a.capacity } else t :=
      fun t => if_congr (by simp [seen]) rfl rfl
    rw [execPollReply_open hw hf, if_pos tile, State.pollAnswered_eq window a poll, State.tileReturns_polled, out]
    simp only [isSeen]
    rfl
  · rcases h with h | h | ⟨w, hw, other⟩
    · exact execPollReply_unheard (.inl h)
    · exact execPollReply_unheard (.inr h)
    · cases hf : parsePollReply frame with
      | none => exact execPollReply_unheard (.inr hf)
      | some a =>
        rw [execPollReply_open hw hf]
        have none : w.frame = .first ∨ w.frame = .retry ∨ w.frame = .repair → s.pollAnswered w a = s := by
          unfold State.pollAnswered
          rintro (content | content | content) <;> simp only [content]
        rcases other with content | content | content | ⟨d, hd, away⟩
        · rw [none (.inl content), ite_self]
        · rw [none (.inr (.inl content)), ite_self]
        · rw [none (.inr (.inr content)), ite_self]
        · obtain rfl : a = d := Option.some.inj (hf.symm.trans hd)
          exact if_neg away
  · intro closed
    have closes : exec .replyWindowClose s = .next (s.closeWindow w) := by
      simp only [exec, execReplyWindowClose, hw]
      rw [if_pos]
      rw [Bool.and_eq_true, State.inReset_eq_false running]
      exact ⟨reached_iff.mpr due, rfl⟩
    rw [closes]
    refine ⟨fun kind => ?_, fun first unanswered => ?_, fun survey => ?_⟩
    · unfold State.closeWindow
      rcases kind with kind | kind | kind | ⟨kind, answered⟩
      · simp only [kind] <;> rfl
      · simp only [kind] <;> rfl
      · simp only [kind] <;> rfl
      · simp only [kind, answered, if_true] <;> rfl
    · unfold State.closeWindow
      simp only [first, unanswered, Bool.false_eq_true, if_false]
      rfl
    · intro heard
      have complete : s.closeWindow w = heard.completeSurvey := by
        unfold State.closeWindow
        simp only [survey]
        rfl
      have running : heard.survey.running = s.survey.running ∧ heard.survey.nextAddress = s.survey.nextAddress := by
        simp only [heard]
        split <;> exact ⟨rfl, rfl⟩
      rw [complete, State.completeSurvey, running.1, running.2]
      refine ⟨fun more => ?_, fun last runs => ?_⟩
      · rw [if_neg]
        rw [Bool.and_eq_true, decide_eq_true_iff]
        rintro ⟨runs, last⟩
        rcases more with few | stopped
        · omega
        · simp [stopped] at runs
      · rw [if_pos (by simp [runs, last])]
        rfl

end Sys2Proof.Machine
end

section
/-!
What the slots of an interval carry (05, sections 5.4 and 5.8; 09, section 9.2).
-/

namespace Sys2Proof.Machine

set_option Elab.async false

/-! ### Content frames (R92) -/

/-- The candidates of an entry of the change. -/
def State.entryFrames (s : State) (c : Change) (frame : SlotFrame) (wanted : Nat → Bool) (e : Entry) : List Candidate :=
  match e.instr with
  | .swap tag =>
    (e.segments.filter (fun g => c.required.contains g.tile && !c.acked.contains g.tile && wanted g.tile)).filterMap
      (s.candidate e.screen frame tag)
  | _ => []

theorem State.contentFor_change {s : State} {c : Change} (hc : s.change = some c) (frame : SlotFrame)
    (wanted : Nat → Bool) : s.contentFor frame wanted = c.entries.flatMap (s.entryFrames c frame wanted) := by
  unfold State.contentFor
  simp only [hc]
  rfl

/-- A required tile that has not acknowledged and is wanted. -/
def Wanted (c : Change) (wanted : Nat → Bool) (a : Nat) : Prop := a ∈ c.required ∧ a ∉ c.acked ∧ wanted a = true

theorem wanted_iff {c : Change} {wanted : Nat → Bool} {a : Nat} :
    (c.required.contains a && !c.acked.contains a && wanted a) = true ↔ Wanted c wanted a := by
  simp [Wanted, and_assoc]

theorem State.entryFrames_nil {s : State} {c : Change} {frame : SlotFrame} {wanted : Nat → Bool} {e : Entry}
    (h : ∀ tag, e.instr = .swap tag → ∀ g ∈ e.segments, ¬ Wanted c wanted g.tile) :
    s.entryFrames c frame wanted e = [] := by
  unfold State.entryFrames
  cases hi : e.instr with
  | swap tag =>
    have none : e.segments.filter (fun g => c.required.contains g.tile && !c.acked.contains g.tile && wanted g.tile) = [] :=
      List.filter_eq_nil_iff.mpr fun g hg => mt wanted_iff.mp (h tag hi g hg)
    simp only [none]
    rfl
  | none | blank => rfl

theorem State.contentFor_nil {s : State} {frame : SlotFrame} {wanted : Nat → Bool}
    (h : ∀ c ∈ s.change, ∀ e ∈ c.entries, ∀ tag, e.instr = .swap tag → ∀ g ∈ e.segments, ¬ Wanted c wanted g.tile) :
    s.contentFor frame wanted = [] := by
  cases hc : s.change with
  | none => simp only [State.contentFor, hc]
  | some c =>
    rw [State.contentFor_change hc, List.flatMap_eq_nil_iff]
    exact fun e he => State.entryFrames_nil fun tag => h c hc e he tag

/-- R92: the first wanted tile, in the order of the entries and of the tile list. -/
theorem State.contentFor_cons {s : State} {c : Change} (hc : s.change = some c) {before after : List Entry} {e : Entry}
    (he : c.entries = before ++ e :: after) {tag : Nat} (hi : e.instr = .swap tag) {sent left : List Segment}
    {seg : Segment} (hs : e.segments = sent ++ seg :: left) {u : ScreenSetup}
    (hu : (s.screens.get e.screen).setup = some u) {wanted : Nat → Bool}
    (entries : ∀ d ∈ before, ∀ t, d.instr = .swap t → ∀ g ∈ d.segments, ¬ Wanted c wanted g.tile)
    (tiles : ∀ g ∈ sent, ¬ Wanted c wanted g.tile) (first : Wanted c wanted seg.tile) (frame : SlotFrame) :
    ∃ rest, s.contentFor frame wanted
      = { frame := frame, tile := seg.tile, tag := tag, cpt := u.cpt, codes := seg.codes } :: rest := by
  have skipped : before.flatMap (s.entryFrames c frame wanted) = [] :=
    List.flatMap_eq_nil_iff.mpr fun d hd => State.entryFrames_nil (entries d hd)
  have passed : sent.filter (fun g => c.required.contains g.tile && !c.acked.contains g.tile && wanted g.tile) = [] :=
    List.filter_eq_nil_iff.mpr fun g hg => mt wanted_iff.mp (tiles g hg)
  have candidate : s.candidate e.screen frame tag seg
      = some { frame := frame, tile := seg.tile, tag := tag, cpt := u.cpt, codes := seg.codes } := by
    simp only [State.candidate, hu]
  have own : ∃ rest, s.entryFrames c frame wanted e
      = { frame := frame, tile := seg.tile, tag := tag, cpt := u.cpt, codes := seg.codes } :: rest := by
    unfold State.entryFrames
    simp only [hi]
    rw [hs, List.filter_append, passed, List.nil_append, List.filter_cons_of_pos (by exact wanted_iff.mpr first),
      List.filterMap_cons_some candidate]
    exact ⟨_, rfl⟩
  obtain ⟨rest, own⟩ := own
  rw [State.contentFor_change hc, he, List.flatMap_append, skipped, List.nil_append, List.flatMap_cons, own]
  exact ⟨_, rfl⟩

/-! ### Repair frames (R105) -/

/-- A tile's repair frame is to be sent, with a kept segment (R105, log 73). -/
def RepairFrame (s : State) (t : Tile) (i : Fin 4) (g : Segment) : Prop :=
  t.state = .inService ∧ t.repairDue = true ∧ s.screenOf t.address = some i
    ∧ (∀ c ∈ s.change, ∀ e ∈ c.entries, e.screen ≠ i) ∧ (s.screens.get i).liveTag ≠ 0
    ∧ t.repairTag ≠ some (s.screens.get i).liveTag
    ∧ (s.screens.get i).kept.find? (fun x => x.tile == t.address) = some g

theorem State.repairFor_eq (s : State) {t : Tile} {i : Fin 4} (hi : s.screenOf t.address = some i) :
    s.repairFor t = if decide (t.state = .inService) && t.repairDue && !s.repairWaits i && (s.screens.get i).liveTag != 0
        && t.repairTag != some (s.screens.get i).liveTag then
      ((s.screens.get i).kept.find? (fun g => g.tile == t.address)).bind (s.candidate i .repair (s.screens.get i).liveTag)
    else none := by
  unfold State.repairFor
  simp only [hi]
  refine if_congr Iff.rfl ?_ rfl
  cases (s.screens.get i).kept.find? (fun g => g.tile == t.address) <;> rfl

theorem repairTest_iff {s : State} {t : Tile} {i : Fin 4} :
    (decide (t.state = .inService) && t.repairDue && !s.repairWaits i && (s.screens.get i).liveTag != 0
        && t.repairTag != some (s.screens.get i).liveTag) = true
      ↔ t.state = .inService ∧ t.repairDue = true ∧ (∀ c ∈ s.change, ∀ e ∈ c.entries, e.screen ≠ i)
        ∧ (s.screens.get i).liveTag ≠ 0 ∧ t.repairTag ≠ some (s.screens.get i).liveTag := by
  simp only [Bool.and_eq_true, decide_eq_true_eq, Bool.not_eq_true', State.repairWaits_eq_false, bne_iff_ne, and_assoc]

theorem State.repairFor_some {s : State} {t : Tile} {i : Fin 4} {g : Segment} (h : RepairFrame s t i g) {u : ScreenSetup}
    (hu : (s.screens.get i).setup = some u) :
    s.repairFor t = some { frame := .repair, tile := g.tile, tag := (s.screens.get i).liveTag, cpt := u.cpt
                           codes := g.codes } := by
  obtain ⟨inService, due, screen, waits, live, tag, kept⟩ := h
  rw [s.repairFor_eq screen, if_pos (repairTest_iff.mpr ⟨inService, due, waits, live, tag⟩), kept]
  simp only [Option.bind_some, State.candidate, hu]

theorem State.repairFor_none {s : State} {t : Tile} (h : ∀ i g, ¬ RepairFrame s t i g) : s.repairFor t = none := by
  cases hi : s.screenOf t.address with
  | none => simp only [State.repairFor, hi]
  | some i =>
    rw [s.repairFor_eq hi]
    split
    case isFalse => rfl
    case isTrue test =>
      obtain ⟨inService, due, waits, live, tag⟩ := repairTest_iff.mp test
      cases kept : (s.screens.get i).kept.find? (fun g => g.tile == t.address) with
      | none => rfl
      | some g => exact absurd ⟨inService, due, hi, waits, live, tag, kept⟩ (h i g)

/-- The repair frames of an interval. -/
def State.repairFrames (s : State) (iv : Interval) : List Candidate :=
  (s.bus.tiles.filter (fun t => !iv.repaired.contains t.address)).filterMap s.repairFor

theorem filterMap_repairs_nil {s : State} {iv : Interval} {l : List Tile}
    (h : ∀ t ∈ l, t.address ∉ iv.repaired → ∀ i g, ¬ RepairFrame s t i g) :
    (l.filter (fun t => !iv.repaired.contains t.address)).filterMap s.repairFor = [] := by
  rw [List.filterMap_eq_nil_iff]
  intro t ht
  obtain ⟨mem, fresh⟩ := List.mem_filter.mp ht
  exact State.repairFor_none (h t mem (by simpa using fresh))

theorem State.repairFrames_cons {s : State} {iv : Interval} {before after : List Tile} {t : Tile} {i : Fin 4} {g : Segment}
    (ht : s.bus.tiles = before ++ t :: after)
    (first : ∀ x ∈ before, x.address ∉ iv.repaired → ∀ j h, ¬ RepairFrame s x j h) (fresh : t.address ∉ iv.repaired)
    (h : RepairFrame s t i g) {u : ScreenSetup} (hu : (s.screens.get i).setup = some u) :
    ∃ rest, s.repairFrames iv = { frame := .repair, tile := g.tile, tag := (s.screens.get i).liveTag, cpt := u.cpt
                                  codes := g.codes } :: rest := by
  unfold State.repairFrames
  rw [ht, List.filter_append, List.filterMap_append, filterMap_repairs_nil first, List.nil_append,
    List.filter_cons_of_pos (by simpa using fresh), List.filterMap_cons_some (State.repairFor_some h hu)]
  exact ⟨_, rfl⟩

/-! ### The slot (R91, R92) -/

theorem State.isOut_iff {s : State} {a : Nat} : s.isOut a = true ↔ a ∈ s.outTiles := by
  simp only [State.isOut, State.outTiles, List.any_eq_true, List.mem_map, List.mem_filter, Bool.and_eq_true, beq_iff_eq,
    decide_eq_true_eq, and_assoc]
  exact exists_congr fun t => by tauto

theorem State.outTiles_nil {s : State} (h : ∀ a, s.isOut a = false) : s.outTiles = [] :=
  List.eq_nil_iff_forall_not_mem.mpr fun a ha => absurd (State.isOut_iff.mpr ha) (by simp [h a])

theorem State.pollDue_iff {s : State} : s.pollDue = true ↔ s.survey.running = true ∨ ∃ a, s.isOut a = true := by
  simp only [State.pollDue, Bool.or_eq_true, Bool.not_eq_true', List.isEmpty_eq_false_iff_exists_mem, State.isOut_iff]
  exact or_comm

/-- A slot that is due, with the bus free. -/
theorem State.slotStarts_due {s : State} {iv : Interval} (hi : s.bus.interval = some iv) (carries : iv.carries = true)
    (running : s.resetUnit.period = none) (drives : s.own.state = .driving ∨ s.own.state = .releasing)
    (free : s.bus.window = none) (idle : iv.busy ≤ iv.next) (more : iv.next < iv.slots)
    (due : 1000 + 600 * iv.next ≤ (s.showClock - iv.start).toNat) : s.slotStarts = s.giveSlot iv := by
  have test : (iv.carries && s.drives && !s.inReset && decide (iv.next < iv.slots)
      && decide (1000 + 600 * iv.next ≤ elapsed s.showClock iv.start)) = true := by
    simp only [Bool.and_eq_true, State.drives_iff, Bool.not_eq_true', decide_eq_true_eq]
    exact ⟨⟨⟨⟨carries, drives⟩, State.inReset_eq_false running⟩, more⟩, due⟩
  unfold State.slotStarts
  simp only [hi]
  rw [if_pos test, if_neg (by omega), if_neg (by simp [free])]

/-- The first candidate goes out when it fits. -/
theorem State.giveSlot_content {s : State} {iv : Interval} {c : Candidate} {rest : List Candidate}
    (hc : s.candidates iv = c :: rest) (some : 0 < slotsFor c.cpt) (room : iv.next + slotsFor c.cpt ≤ iv.slots)
    (kept : s.pollDue = true → iv.next + slotsFor c.cpt + 1 ≤ iv.slots) : s.giveSlot iv = s.sendContent iv c := by
  have fits : decide (iv.next + slotsFor c.cpt ≤ if s.pollDue then iv.slots - 1 else iv.slots) = true := by
    rw [decide_eq_true_iff]
    split
    case isTrue poll =>
      have := kept poll
      omega
    case isFalse => exact room
  unfold State.giveSlot
  simp only
  rw [if_neg, hc, List.find?_cons_of_pos (by exact fits)]
  rw [Bool.and_eq_true, decide_eq_true_iff]
  rintro ⟨poll, last⟩
  have := kept poll
  omega

theorem State.giveSlot_silent {s : State} {iv : Interval} (hc : s.candidates iv = [])
    (notPoll : ¬ (s.pollDue = true ∧ iv.next + 1 = iv.slots)) : s.giveSlot iv = s.passSlot iv := by
  unfold State.giveSlot
  simp only
  rw [if_neg (by simpa using notPoll), hc] <;> rfl

theorem State.giveSlot_poll {s : State} {iv : Interval} (poll : s.pollDue = true) (last : iv.next + 1 = iv.slots) :
    s.giveSlot iv = match s.pollChoice iv with
      | some (kind, a) => s.sendPoll iv kind a
      | none => s.passSlot iv := by
  unfold State.giveSlot
  simp only
  rw [if_pos (by simp [poll, last])] <;> rfl

theorem State.candidates_eq (s : State) (iv : Interval) :
    s.candidates iv = s.contentFor .first (fun a => !iv.attempted.contains a)
      ++ s.contentFor .retry (fun a => iv.failed.contains a && !iv.retried.contains a) ++ s.repairFrames iv := rfl

/-! ### Polls (R104, R158) -/

theorem nextOut_eq {outs : List Nat} (sorted : outs.Pairwise (· < ·)) (range : ∀ x ∈ outs, 1 ≤ x ∧ x ≤ 16) {position a : Nat}
    (least : 1 ≤ position) (most : position ≤ 16) (ha : a ∈ outs)
    (nearest : ∀ x ∈ outs, (a + 16 - position) % 16 ≤ (x + 16 - position) % 16) : nextOut outs position = some a := by
  have ofA := range a ha
  unfold nextOut
  cases found : outs.find? (fun x => decide (position ≤ x)) with
  | some b =>
    have hb := List.mem_of_find?_eq_some found
    have after : position ≤ b := by simpa using List.find?_some found
    have ofB := range b hb
    have near := nearest b hb
    have first : position ≤ a → b ≤ a := by
      intro late
      obtain ⟨front, back, rfl, before⟩ := List.find?_eq_some_iff_append.mp found |>.2
      rcases List.mem_append.mp ha with early | later
      · have := before a early
        simp at this
        omega
      · rcases List.mem_cons.mp later with rfl | later
        · exact le_refl _
        · have rising := (List.pairwise_append.mp sorted).2.1
          exact le_of_lt ((List.pairwise_cons.mp rising).1 a later)
    simp only [Option.some.injEq]
    by_cases late : position ≤ a
    · have := first late
      omega
    · omega
  | none =>
    have early : ∀ x ∈ outs, x < position := by simpa using List.find?_eq_none.mp found
    cases outs with
    | nil => simp at ha
    | cons h rest =>
      have head : h ≤ a := by
        rcases List.mem_cons.mp ha with rfl | later
        · exact le_refl _
        · exact le_of_lt ((List.pairwise_cons.mp sorted).1 a later)
      have near := nearest h (List.mem_cons_self ..)
      have := early a ha
      have := early h (List.mem_cons_self ..)
      have := range h (List.mem_cons_self ..)
      simp only [List.head?_cons, Option.some.injEq]
      omega

theorem State.outTiles_sublist (s : State) : s.outTiles.Sublist (s.bus.tiles.map (fun t => t.address)) :=
  List.filter_sublist.map _

/-- R104, logs 58 and 59: the poll slot goes to the OUT tiles. -/
theorem State.pollChoice_out {s : State} {iv : Interval} (h : ¬ (s.surveyPolls iv = true ∧ (s.outTiles = [] ∨ s.survey.turn = .survey)))
    {o : Option Nat} (ho : nextOut s.outTiles s.bus.pollPosition = o) : s.pollChoice iv = o.map (fun a => (.outPoll, a)) := by
  subst ho
  unfold State.pollChoice
  rw [if_neg (by simpa using h)]
  cases nextOut s.outTiles s.bus.pollPosition <;> rfl

/-- Settles O38. -/
theorem slotsCarryFramesAndPolls : Obligations.SlotsCarryFramesAndPolls := by
  unfold Obligations.SlotsCarryFramesAndPolls
  intro s iv hi carries running drives free idle due start frameSent fits tried retries noAttempt noRetry mends
  have given : iv.next < iv.slots → exec .slotStart s = .next (s.giveSlot iv) := fun more =>
    congrArg _ (State.slotStarts_due hi carries running drives free idle more due)
  have kept : ∀ slots, fits slots → 0 < slots ∧ iv.next + slots ≤ iv.slots
      ∧ (s.pollDue = true → iv.next + slots + 1 ≤ iv.slots) := fun slots h => by
    obtain ⟨some, room, last⟩ := h
    exact ⟨some, room, fun poll => last (State.pollDue_iff.mp poll)⟩
  have contents : ∀ {c : Candidate} {rest : List Candidate}, s.candidates iv = c :: rest → fits (slotsFor c.cpt) →
      exec .slotStart s = .next (s.sendContent iv c) := fun hc h => by
    obtain ⟨some, room, last⟩ := kept _ h
    rw [given (by omega), State.giveSlot_content hc some room last]
  let fresh : Nat → Bool := fun a => !iv.attempted.contains a
  let again : Nat → Bool := fun a => iv.failed.contains a && !iv.retried.contains a
  have untried : ∀ c a, ¬ Wanted c fresh a ↔ tried c a := fun c a => by
    simp only [Wanted, fresh, tried, Bool.not_eq_true', ← Bool.not_eq_true, List.contains_iff_mem]
    tauto
  have unretried : ∀ c a, Wanted c again a ↔ retries c a := fun c a => by
    simp [Wanted, again, retries]
  have noFirst : noAttempt → s.contentFor .first fresh = [] := fun h =>
    State.contentFor_nil fun c hc e he tag hi g hg => (untried c g.tile).mpr (h c hc e he tag hi g hg)
  have noSecond : noRetry → s.contentFor .retry again = [] := fun h =>
    State.contentFor_nil fun c hc e he tag hi g hg => mt (unretried c g.tile).mp (h c hc e he tag hi g hg)
  have mending : ∀ t i g, mends t i g ↔ t.address ∉ iv.repaired ∧ RepairFrame s t i g := fun t i g => by
    simp only [mends, RepairFrame]
    tauto
  refine ⟨?_, ?_, ⟨?_, ?_⟩, ?_, ?_⟩
  · intro c before after e tag sent left seg u hc he hinstr hs hu room frame
    refine ⟨fun entries tiles required unacked new => ?_, fun none entries tiles retry => ?_⟩
    · obtain ⟨rest, first⟩ := State.contentFor_cons hc he hinstr hs hu (wanted := fresh)
        (fun d hd t ht g hg => (untried c g.tile).mpr (entries d hd t ht g hg))
        (fun g hg => (untried c g.tile).mpr (tiles g hg))
        (by simp [Wanted, fresh, required, unacked, new]) .first
      rw [contents (c := { frame := .first, tile := seg.tile, tag := tag, cpt := u.cpt, codes := seg.codes })
        (by rw [State.candidates_eq, first]; rfl) room]
      rfl
    · obtain ⟨rest, second⟩ := State.contentFor_cons hc he hinstr hs hu (wanted := again)
        (fun d hd t ht g hg => mt (unretried c g.tile).mp (entries d hd t ht g hg))
        (fun g hg => mt (unretried c g.tile).mp (tiles g hg)) ((unretried c seg.tile).mpr retry) .retry
      rw [contents (c := { frame := .retry, tile := seg.tile, tag := tag, cpt := u.cpt, codes := seg.codes })
        (by rw [State.candidates_eq, noFirst none, second]; rfl) room]
      rfl
  · intro none noneAgain before after t i g u ht first mend hu room
    obtain ⟨fresh, repair⟩ := (mending t i g).mp mend
    obtain ⟨rest, third⟩ := State.repairFrames_cons ht
      (fun x hx new j h repair => first x hx j h ((mending x j h).mpr ⟨new, repair⟩)) fresh repair hu
    rw [contents (c := { frame := .repair, tile := g.tile, tag := (s.screens.get i).liveTag, cpt := u.cpt, codes := g.codes })
      (by rw [State.candidates_eq, noFirst none, noSecond noneAgain, third]; rfl) room]
    rfl
  · intro none noneAgain noMend room
    have empty : s.candidates iv = [] := by
      rw [State.candidates_eq, noFirst none, noSecond noneAgain]
      exact filterMap_repairs_nil fun t ht new i g repair => noMend t ht i g ((mending t i g).mpr ⟨new, repair⟩)
    rw [given (by omega), State.giveSlot_silent empty]
    · rfl
    · rw [State.pollDue_iff]
      rintro ⟨poll, last⟩
      rcases room with more | ⟨-, noOut, noSurvey⟩
      · omega
      · rcases poll with runs | ⟨a, out⟩
        · simp [noSurvey] at runs
        · simp [noOut a] at out
  · intro last runs closed noOut
    have empty : s.outTiles = [] := State.outTiles_nil noOut
    have notPolls : ¬ (s.surveyPolls iv = true) := by
      simp only [State.surveyPolls, Bool.and_eq_true, decide_eq_true_eq]
      rintro ⟨⟨-, surveyed⟩, few⟩
      rcases closed with unsurveyed | many
      · simp [unsurveyed] at surveyed
      · omega
    rw [given (by omega), State.giveSlot_poll (State.pollDue_iff.mpr (.inl runs)) last,
      State.pollChoice_out (o := none) (fun both => notPolls both.1) (by rw [empty]; rfl)]
    rfl
  · intro last runs surveyed few turn polled
    have polls : (s.surveyPolls iv && (s.outTiles.isEmpty || decide (s.survey.turn = .survey))) = true := by
      simpa [State.surveyPolls, runs, surveyed, few] using turn.imp_left State.outTiles_nil
    have choice : s.pollChoice iv = some (.surveyPoll, s.survey.nextAddress) := if_pos polls
    rw [given (by omega), State.giveSlot_poll (State.pollDue_iff.mpr (.inl runs)) last, choice]
    rfl
  · intro a last turn addresses out least most nearest polled
    have isOut : a ∈ s.outTiles := State.isOut_iff.mp out
    have sub := s.outTiles_sublist
    rw [addresses] at sub
    have range : ∀ x ∈ s.outTiles, 1 ≤ x ∧ x ≤ 16 := fun x hx => by
      obtain ⟨k, hk, rfl⟩ := List.mem_map.mp (sub.subset hx)
      have := List.mem_range.mp hk
      omega
    have sorted : s.outTiles.Pairwise (· < ·) := List.Pairwise.sublist sub (by decide)
    have next : nextOut s.outTiles s.bus.pollPosition = some a :=
      nextOut_eq sorted range least most isOut fun x hx => nearest x (State.isOut_iff.mpr hx)
    have notSurvey : ¬ (s.surveyPolls iv = true ∧ (s.outTiles = [] ∨ s.survey.turn = .survey)) := by
      simp only [State.surveyPolls, Bool.and_eq_true, decide_eq_true_eq]
      rintro ⟨⟨⟨runs, surveyed⟩, few⟩, empty | mine⟩
      · simp [empty] at isOut
      · rcases turn with idle | unsurveyed | many | other
        · simp [idle] at runs
        · simp [unsurveyed] at surveyed
        · omega
        · simp [mine] at other
    have position : afterAddress a = if a = 16 then 1 else a + 1 := by
      have := (range a isOut).2
      exact if_congr (by omega) rfl rfl
    rw [given (by omega), State.giveSlot_poll (State.pollDue_iff.mpr (.inr ⟨a, out⟩)) last,
      State.pollChoice_out notSurvey next, ← position]
    rfl

end Sys2Proof.Machine
end

section
/-!
The control port (10): which requests are taken, what is refused, the two reports, and the parameters.
-/

namespace Sys2Proof.Machine

set_option Elab.async false

/-! ### Which commands take a request, and which requests are refused (R164, R165) -/

/-- A command that names a request takes it from the queue's head and does no more. -/
theorem exec_eq_take {c : Instr} {k : Byte} (h : requestKind c = some k) :
    ∃ form handle, ∀ s, exec c s = .next (s.take k form handle) := by
  cases c <;> cases h <;> exact ⟨_, _, fun _ => rfl⟩

/-- R181: a request without an argument is taken with an empty body alone. -/
theorem exec_bareRequest {c : Instr} {echo : Echo} {k : Byte} (hc : c ∈ bareRequests echo) (h : requestKind c = some k) :
    ∃ handle, ∀ s, exec c s = .next (s.take k formEmpty handle) := by
  simp only [bareRequests, List.mem_cons, List.not_mem_nil, or_false] at hc
  rcases hc with rfl | rfl | rfl | rfl | rfl | rfl | rfl | rfl | rfl | rfl | rfl | rfl | rfl | rfl | rfl | rfl <;>
    cases h <;> exact ⟨_, fun _ => rfl⟩

theorem State.take_untaken {s : State} {k : Byte} (form : List Byte → BodyForm)
    (handle : State → State × Status × ReplyBody)
    (h : s.takesRequests = false ∨ ∀ r ∈ s.port.requests.head?, r.kind ≠ k) : s.take k form handle = s := by
  unfold State.take
  cases queue : s.port.requests with
  | nil => rfl
  | cons r rest =>
    have closed : ¬ (s.takesRequests && r.kind == k) = true := by
      rcases h with h | h
      · simp [h]
      · simp [h r (by simp [queue])]
    exact if_neg closed

theorem Waiting.answered_bad {s : State} {kind : Byte} {body : List Byte} {rest : List Record}
    (h : Waiting s kind body rest) {form : List Byte → BodyForm} (hf : form body = .bad)
    (handle : State → State × Status × ReplyBody) :
    s.take kind form handle = (s.withRequests rest).withReply kind .badArgument .empty :=
  (h.take_bad form handle hf).trans (State.answer_empty ..)

theorem formEmpty_bad {body : List Byte} (h : body ≠ []) : formEmpty body = .bad := if_neg h

theorem formCue_bad {c : CueRecord} {body : List Byte} (h : parseCue body = none) : formCue c body = .bad := by
  simp [formCue, h]

theorem formPage_bad {p : Page} {body : List Byte} (h : parsePage body = none) : formPage p body = .bad := by
  simp [formPage, h]

theorem unknownKind_iff {kind : Byte} : unknownKind kind = true ↔ 128 ≤ kind.toNat ∨ kind ∉ requestCodes := by
  have top : kind.getMsbD 0 = decide (128 ≤ kind.toNat) := kind.msb_eq_decide
  have named : requestKinds.contains kind = true ↔ kind ∈ requestCodes := List.contains_iff_mem
  simp only [unknownKind, Bool.or_eq_true, top, decide_eq_true_eq, Bool.not_eq_true', ← Bool.not_eq_true, named]

theorem not_unknownKind {kind : Byte} (h : kind ∈ requestCodes) : ¬ unknownKind kind = true := by
  have low : ∀ k ∈ requestCodes, k.toNat < 128 := by decide
  rw [unknownKind_iff]
  have := low kind h
  rintro (high | out)
  · omega
  · exact out h

theorem Waiting.takeUnknown {s : State} {kind : Byte} {body : List Byte} {rest : List Record}
    (h : Waiting s kind body rest) :
    s.takeUnknown
      = if unknownKind kind then (s.withRequests rest).withReply kind .unknownKind .empty else s := by
  obtain ⟨queue, -⟩ := id h
  simp only [State.takeUnknown, queue, h.takes, h.dropped, Bool.true_and]
  rfl

/-! ### STATUS (R173) -/

theorem pageGlyphs_sum (pages : List Page) :
    poolUse pages = (pages.map (fun p => (p.lines.map List.length).sum)).sum := rfl

theorem LiveRecord.reported_eq (l : LiveRecord) :
    l.reported = if l.cue = none then { cue := none, sweep := 0, trigger := none } else l := by
  unfold LiveRecord.reported
  cases h : l.cue <;> simp

theorem resting_iff {l : LinkState} : l ≠ .active ↔ l = .quiet ∨ l = .waking := by cases l <;> simp

/-- Settles O44. -/
theorem requestsAreTakenAndAnswered : Obligations.RequestsAreTakenAndAnswered := by
  unfold Obligations.RequestsAreTakenAndAnswered
  intro s rest went
  refine ⟨fun h => ?_, fun h => ?_, fun h => ?_, fun kind body h => ⟨fun unknown => ?_, fun known => ?_, ?_, ?_, ?_⟩,
    fun c k hk shut => ?_⟩
  · exact congrArg _ (h.answered (form := formEmpty) rfl _)
  · have taken : exec .status s = .next (answered kStatus (went, .ok, .status went.statusReport)) :=
      congrArg _ (h.answered (form := formEmpty) rfl _)
    have link : (if went.drives then some went.bus.link else none)
        = if s.own.state = .driving ∨ s.own.state = .releasing then some s.bus.link else none :=
      if_congr State.drives_iff rfl rfl
    rw [taken, answered_taken _ _ _ (.inl rfl)]
    simp only [State.statusReport, LiveRecord.reported_eq, link, resting_iff]
    rfl
  · exact congrArg _ (h.answered (form := formEmpty) rfl _)
  · exact congrArg _ (h.takeUnknown.trans (if_pos (unknownKind_iff.mpr unknown)))
  · exact congrArg _ (h.takeUnknown.trans (if_neg (not_unknownKind known)))
  · rintro c k echo hc hk rfl some
    obtain ⟨handle, eq⟩ := exec_bareRequest hc hk
    rw [eq, h.answered_bad (formEmpty_bad some)]
  · rintro c rfl none
    exact congrArg _ (h.answered_bad (formCue_bad none) _)
  · rintro p rfl none
    exact congrArg _ (h.answered_bad (formPage_bad none) _)
  · obtain ⟨form, handle, eq⟩ := exec_eq_take hk
    rw [eq, State.take_untaken]
    have closed : ¬ (s.resetUnit.period = none ∧ s.port.restartTaken = false ∧ s.port.replies.any (fun r => r.taken) = false) →
        s.takesRequests = false := fun h => Bool.eq_false_iff.mpr (mt State.takesRequests_iff.mp h)
    rcases shut with period | restart | held | head
    · exact .inl (closed fun h => period h.1)
    · exact .inl (closed fun h => by simp [restart] at h)
    · exact .inl (closed fun h => by simp only [List.any_eq_false] at h; obtain ⟨r, hr, taken⟩ := held; exact h.2.2 r hr taken)
    · exact .inr head

/-! ### Parameters (R174, R175) -/

theorem takenAs_cases (given used : Nat) : takenAs given used = .ok ∨ takenAs given used = .adjusted := by
  unfold takenAs
  split
  · exact .inl rfl
  · exact .inr rfl

theorem takenAs_eq (given used : Nat) : takenAs given used = if used = given then .ok else .adjusted :=
  if_congr eq_comm rfl rfl

theorem answered_setNumber (s : State) (id least greatest v : Nat) (put : Params → Nat → Params) :
    answered kSetParam (s.setNumber id least greatest v put)
      = ({ s with params := put s.params (max least (min v greatest)) }).withReply 0x03
          (if max least (min v greatest) = v then .ok else .adjusted) (.param id (max least (min v greatest)) none) := by
  rw [← takenAs_eq]
  exact answered_taken _ _ _ (takenAs_cases _ _)

theorem answered_setSwitch (s : State) (id v : Nat) (put : Params → Bool → Params) :
    answered kSetParam (s.setSwitch id v put)
      = if v < 2 then ({ s with params := put s.params (decide (v = 1)) }).withReply 0x03 .ok (.param id v none)
        else s.withReply 0x03 .badArgument .empty := by
  unfold State.setSwitch
  by_cases code : v < 2
  · rw [if_pos code, if_pos (Nat.le_of_lt_succ code)]
    rfl
  · rw [if_neg code, if_neg (by omega)]
    rfl

theorem answered_setBeatSource (s : State) (v : Nat) :
    answered kSetParam (s.setParamRequest 2 v)
      = if v < 3 then ({ s with params := { s.params with
          beatSource := if v = 0 then .line else if v = 1 then .tap else .both } }).withReply 0x03 .ok (.param 2 v none)
        else s.withReply 0x03 .badArgument .empty := by
  match v with
  | 0 | 1 | 2 => rfl
  | n + 3 =>
    rw [if_neg (by omega)]
    rfl

theorem answered_setPartialPolicy (s : State) (v : Nat) :
    answered kSetParam (s.setParamRequest 10 v)
      = if v < 2 then ({ s with params := { s.params with
          partialPolicy := if v = 0 then .showTorn else .blankScreen } }).withReply 0x03 .ok (.param 10 v none)
        else s.withReply 0x03 .badArgument .empty := by
  match v with
  | 0 | 1 => rfl
  | n + 2 =>
    rw [if_neg (by omega)]
    rfl

theorem answered_setBusRequest (s : State) (v : Nat) :
    answered kSetParam (s.setBusRequest v)
      = if v < 2 then ({ s with
            params := { s.params with busRequest := decide (v = 1) }
            own := { s.own with request := decide (v = 1) } }).withReply 0x03 .ok (.param 12 v none)
        else s.withReply 0x03 .badArgument .empty := by
  unfold State.setBusRequest
  by_cases code : v < 2
  · rw [if_pos code, if_pos (Nat.le_of_lt_succ code)]
    rfl
  · rw [if_neg code, if_neg (by omega)]
    rfl

/-- R174: the greatest member at most the value, and no value is below the first. -/
theorem ppbMember_eq (v : Nat) :
    ppbMember v = if v = 0 then 1 else if v = 5 then 4 else if v = 7 then 6 else min v 8 := by
  unfold ppbMember
  split_ifs <;> omega

theorem answered_setPulses (s : State) (v : Nat) {used : Nat} (h : ppbMember v = used) :
    answered kSetParam (s.setPulses v)
      = ({ s with tracker := { s.tracker with pendingPpb := if used = s.tracker.ppb then none else some used } }).withReply
          0x03 (if used = v then .ok else .adjusted) (.param 3 used (some (s.tracker.ppb, decide (used ≠ s.tracker.ppb)))) := by
  subst h
  have waits : (s.tracker.setPpb (ppbMember v)).pendingPpb.isSome = decide (ppbMember v ≠ s.tracker.ppb) := by
    simp only [Tracker.setPpb]
    split_ifs with same <;> simp [same]
  unfold State.setPulses
  rw [answered_taken _ _ _ (takenAs_cases _ _), waits, takenAs_eq]
  rfl

theorem State.setParamRequest_unknown (s : State) {id : Nat} (v : Nat) (h : id < 1 ∨ 18 < id) :
    s.setParamRequest id v = refuse s .badArgument := by
  unfold State.setParamRequest
  split
  case h_19 => rfl
  all_goals omega

theorem State.paramValue_unknown (s : State) {id : Nat} (h : id < 1 ∨ 18 < id) : s.paramValue id = none := by
  unfold State.paramValue
  split
  case h_19 => rfl
  all_goals omega

/-- The values set, by id from 1 on (R175). -/
def State.paramValues (s : State) : List Nat :=
  [s.params.sweepPeriod, (match s.params.beatSource with | .line => 0 | .tap => 1 | .both => 2),
    s.tracker.pendingPpb.getD s.tracker.ppb, s.params.followGain, s.params.lossBeats, s.params.defaultLead,
    s.params.defaultDwell, s.params.tileLatency, s.params.graceSweeps,
    (match s.params.partialPolicy with | .showTorn => 0 | .blankScreen => 1), s.params.quietDelay,
    switchCode s.params.busRequest, switchCode s.params.busHold, switchCode s.params.commitHold,
    s.params.divergenceSweeps, switchCode s.params.shadowFollow, s.params.positionReport, s.params.velocityFactor]

theorem State.paramValue_eq (s : State) {id : Nat} (least : 1 ≤ id) : s.paramValue id = s.paramValues[id - 1]? := by
  by_cases out : 18 < id
  · rw [s.paramValue_unknown (.inr out), eq_comm, List.getElem?_eq_none_iff]
    simp only [State.paramValues, List.length_cons, List.length_nil]
    omega
  · interval_cases id <;> rfl

/-- Settles O45. -/
theorem parametersAreSetAndRead : Obligations.ParametersAreSetAndRead := by
  unfold Obligations.ParametersAreSetAndRead
  intro s id v body rest went p tr
  constructor
  · intro h refused numeric coded
    have taken : ∀ n, exec (.setParam n v) s = .next (answered kSetParam (went.setParamRequest n v)) :=
      fun _ => congrArg _ (h.answered (form := formFree) rfl _)
    have number : ∀ least greatest put, went.setParamRequest id v = went.setNumber id least greatest v put →
        exec (.setParam id v) s = numeric put least greatest := by
      intro least greatest put eq
      rw [taken, eq, answered_setNumber]
      rfl
    have switch : ∀ put : Params → Bool → Params, went.setParamRequest id v = went.setSwitch id v put →
        exec (.setParam id v) s = coded (fun q n => put q (decide (n = 1))) 2 := by
      intro put eq
      rw [taken, eq, answered_setSwitch]
      rfl
    refine ⟨fun out => ?_, fun at_ => ?_, fun at_ => ?_, fun at_ => ?_, fun at_ => ?_, fun at_ => ?_, fun at_ => ?_,
      fun at_ => ?_, fun at_ => ?_, fun at_ => ?_, fun at_ => ?_, fun at_ => ?_, fun at_ => ?_, fun at_ => ?_,
      fun at_ => ?_, fun at_ => ?_, fun at_ => ?_, fun at_ => ?_, fun at_ => ?_⟩
    · rw [taken, State.setParamRequest_unknown _ v out]
      exact congrArg _ (answered_refuse ..)
    all_goals subst at_
    · exact number 10 40 (fun q n => { q with sweepPeriod := n }) rfl
    · rw [taken]
      exact congrArg _ (answered_setBeatSource went v)
    · rw [taken]
      exact congrArg _ (answered_setPulses went v (ppbMember_eq v))
    · exact number 1 16 (fun q n => { q with followGain := n }) rfl
    · exact number 2 8 (fun q n => { q with lossBeats := n }) rfl
    · exact number 0 3000 (fun q n => { q with defaultLead := n }) rfl
    · exact number 0 10000 (fun q n => { q with defaultDwell := n }) rfl
    · exact number 0 100 (fun q n => { q with tileLatency := n }) rfl
    · exact number 1 8 (fun q n => { q with graceSweeps := n }) rfl
    · rw [taken]
      exact congrArg _ (answered_setPartialPolicy went v)
    · exact number 0 250 (fun q n => { q with quietDelay := n }) rfl
    · rw [taken]
      exact congrArg _ (answered_setBusRequest went v)
    · exact switch (fun q on => { q with busHold := on }) rfl
    · exact switch (fun q on => { q with commitHold := on }) rfl
    · exact number 1 50 (fun q n => { q with divergenceSweeps := n }) rfl
    · exact switch (fun q on => { q with shadowFollow := on }) rfl
    · exact number 0 16 (fun q n => { q with positionReport := n }) rfl
    · exact number 50 90 (fun q n => { q with velocityFactor := n }) rfl
  · intro h code values
    have taken : exec (.getParam id) s = .next (answered kGetParam (went.getParamRequest id)) :=
      congrArg _ (h.answered (form := formFree) rfl _)
    refine ⟨fun out => ?_, fun x least value => ?_⟩
    · rw [taken, State.getParamRequest, State.paramValue_unknown went out]
      exact congrArg _ (answered_refuse ..)
    · have found : went.paramValue id = some x := (went.paramValue_eq least).trans value
      rw [taken, State.getParamRequest, found]
      rfl

end Sys2Proof.Machine
end

section
/-!
The control port (10): the record receiver, byte by byte.
-/

namespace Sys2Proof.Machine

set_option Elab.async false

/-! ### Numbers as bytes -/

theorem byteOf_toNat (n : Nat) : (byteOf n).toNat = n % 256 := BitVec.toNat_ofNat ..

theorem natOf_be16 {n : Nat} (h : n < 65536) : natOf (be16 n) = n := by
  simp only [natOf, be16, List.foldl_cons, List.foldl_nil, byteOf_toNat]
  omega

theorem elapsed_self (t : ShowTime) : elapsed t t = 0 := by simp [elapsed]

/-! ### One byte at the receiver (R162) -/

/-- Bytes that all have their stop bit. -/
def stopped (bs : List Byte) : List LineByte := bs.map (fun b => { byte := b, stopBit := true })

/-- The control port with its receiver replaced. -/
def ControlPort.withReceiver (p : ControlPort) (r : CtlReceiver) : ControlPort := { p with receiver := r }

theorem ControlPort.no_gap {p : ControlPort} {now : ShowTime}
    (h : p.receiver.phase = .hunt ∨ p.receiver.lastByte = now) : p.gap now = false := by
  unfold ControlPort.gap
  rcases h with h | h <;> simp [h, elapsed_self]

/-- What the receiver's step on a byte makes of the port. -/
def ControlPort.after (p : ControlPort) (now : ShowTime) (step : CtlReceiver × Taken Record) : ControlPort :=
  match step.2 with
  | .more => p.withReceiver { step.1 with lastByte := now }
  | .fails => (p.withReceiver { step.1 with lastByte := now }).raiseLineError
  | .whole record => (p.withReceiver { step.1 with lastByte := now }).accept record

/-- A byte with its stop bit, the 2 ms not run out: the receiver takes it. -/
theorem ControlPort.byte_taken {p : ControlPort} {now : ShowTime}
    (h : p.receiver.phase = .hunt ∨ p.receiver.lastByte = now) (b : Byte) :
    p.byte now { byte := b, stopBit := true } = p.after now (p.receiver.take b) := by
  unfold ControlPort.byte
  rw [ControlPort.no_gap h]
  rfl

/-- A further byte taken at one reading of the clock. -/
theorem ControlPort.byte_next (p : ControlPort) (now : ShowTime) {phase : CtlPhase} {n : Nat} {bs : List Byte}
    (b : Byte) {step : CtlReceiver × Taken Record}
    (taken : CtlReceiver.take { phase := phase, length := n, bytes := bs, lastByte := now } b = step) :
    (p.withReceiver { phase := phase, length := n, bytes := bs, lastByte := now }).byte now
        { byte := b, stopBit := true } = p.after now step :=
  (ControlPort.byte_taken (p := p.withReceiver ⟨phase, n, bs, now⟩) (.inr rfl) b).trans (congrArg (p.after now) taken)

/-! ### The parts of a record -/

theorem CtlReceiver.take_hunt_sync {r : CtlReceiver} (h : r.phase = .hunt) :
    r.take 0xC3 = ({ r with phase := .length, length := 0, bytes := [] }, .more) := by
  simp [CtlReceiver.take, h]

theorem CtlReceiver.take_hunt_other {r : CtlReceiver} (h : r.phase = .hunt) {b : Byte} (hb : b ≠ 0xC3) :
    r.take b = (r, .more) := by
  have other : ¬ b = 195#8 := hb
  simp [CtlReceiver.take, h, other]

theorem ControlPort.byte_sync {p : ControlPort} (now : ShowTime) (h : p.receiver.phase = .hunt) :
    p.byte now { byte := 0xC3, stopBit := true }
      = p.withReceiver { phase := .length, length := 0, bytes := [], lastByte := now } :=
  (ControlPort.byte_taken (.inl h) _).trans (congrArg (p.after now) (CtlReceiver.take_hunt_sync h))

/-- The length bytes of a record whose length lies in 1 to 1001. -/
theorem ControlPort.bytes_length (p : ControlPort) (now : ShowTime) (hi lo : Byte)
    (range : 1 ≤ natOf [hi, lo] ∧ natOf [hi, lo] ≤ 1001) :
    (stopped [hi, lo]).foldl (ControlPort.byte now)
        (p.withReceiver { phase := .length, length := 0, bytes := [], lastByte := now })
      = p.withReceiver { phase := .kind, length := natOf [hi, lo], bytes := [hi, lo], lastByte := now } := by
  have first := p.byte_next now (phase := .length) (n := 0) (bs := []) hi (step := (⟨.length, 0, [hi], now⟩, .more)) rfl
  have second := p.byte_next now (phase := .length) (n := 0) (bs := [hi]) lo
    (step := (⟨.kind, natOf [hi, lo], [hi, lo], now⟩, .more)) (if_pos range)
  exact (congrArg (fun q => ControlPort.byte now q _) first).trans second

/-- A length out of range drops the record. -/
theorem ControlPort.bytes_length_bad (p : ControlPort) (now : ShowTime) (hi lo : Byte)
    (range : ¬ (1 ≤ natOf [hi, lo] ∧ natOf [hi, lo] ≤ 1001)) :
    (stopped [hi, lo]).foldl (ControlPort.byte now)
        (p.withReceiver { phase := .length, length := 0, bytes := [], lastByte := now })
      = (p.withReceiver { phase := .hunt, length := 0, bytes := [], lastByte := now }).raiseLineError := by
  have first := p.byte_next now (phase := .length) (n := 0) (bs := []) hi (step := (⟨.length, 0, [hi], now⟩, .more)) rfl
  have second := p.byte_next now (phase := .length) (n := 0) (bs := [hi]) lo
    (step := (CtlReceiver.fresh, .fails)) (if_neg range)
  exact (congrArg (fun q => ControlPort.byte now q _) first).trans second

/-- The bytes of a body, up to the last. -/
theorem ControlPort.bytes_body (p : ControlPort) (now : ShowTime) (n : Nat) (before body : List Byte)
    (some : body ≠ []) (fits : before.length + body.length = n + 2) :
    (stopped body).foldl (ControlPort.byte now)
        (p.withReceiver { phase := .body, length := n, bytes := before, lastByte := now })
      = p.withReceiver { phase := .check, length := n, bytes := before ++ body, lastByte := now } := by
  induction body generalizing before with
  | nil => exact absurd rfl some
  | cons b rest ih =>
    by_cases last : rest = []
    · subst last
      have full : (before ++ [b]).length = n + 2 := by simpa using fits
      exact p.byte_next now b (step := (⟨.check, n, before ++ [b], now⟩, .more)) (by simp [CtlReceiver.take, CtlReceiver.push, full])
    · have more : (before ++ [b]).length ≠ n + 2 := by
        have := List.length_pos_of_ne_nil last
        simp only [List.length_cons, List.length_append, List.length_nil] at fits ⊢
        omega
      have step := p.byte_next now (phase := .body) (n := n) (bs := before) b
        (step := (⟨.body, n, before ++ [b], now⟩, .more)) (congrArg (·, Taken.more) (if_neg more))
      have rest_taken := ih (before ++ [b]) last (by simp only [List.length_cons, List.length_append, List.length_nil] at fits ⊢; omega)
      rw [List.append_assoc] at rest_taken
      exact (congrArg (List.foldl _ · _) step).trans rest_taken

/-- Kind and body of a record, after its length. -/
theorem ControlPort.bytes_kind_body (p : ControlPort) (now : ShowTime) (kind : Byte) (body : List Byte) :
    (stopped (kind :: body)).foldl (ControlPort.byte now)
        (p.withReceiver { phase := .kind, length := body.length + 1, bytes := be16 (body.length + 1), lastByte := now })
      = p.withReceiver { phase := .check, length := body.length + 1, bytes := be16 (body.length + 1) ++ kind :: body, lastByte := now } := by
  have step := p.byte_next now (phase := .kind) (n := body.length + 1) (bs := be16 (body.length + 1)) kind
    (step := (⟨if 1 < body.length + 1 then .body else .check, _, be16 (body.length + 1) ++ [kind], now⟩, .more)) rfl
  refine (congrArg (List.foldl _ · _) step).trans ?_
  cases body with
  | nil => rfl
  | cons b rest =>
    refine (p.bytes_body now _ _ (b :: rest) (List.cons_ne_nil b rest) ?_).trans ?_
    · simp [be16]
      omega
    · simp

/-- The check of a record: the bytes it covers have been taken. -/
theorem ControlPort.bytes_check (p : ControlPort) (now : ShowTime) (n : Nat) (covered : List Byte)
    (fits : covered.length = n + 2) (hi lo : Byte) :
    (stopped [hi, lo]).foldl (ControlPort.byte now)
        (p.withReceiver { phase := .check, length := n, bytes := covered, lastByte := now })
      = if [hi, lo] = checkBytes (crc covered) then
          (p.withReceiver { phase := .hunt, length := 0, bytes := [], lastByte := now }).accept (recordOf covered)
        else (p.withReceiver { phase := .hunt, length := 0, bytes := [], lastByte := now }).raiseLineError := by
  have first := p.byte_next now (phase := .check) (n := n) (bs := covered) hi
    (step := (⟨.check, n, covered ++ [hi], now⟩, .more))
    (by simp [CtlReceiver.take, CtlReceiver.push, fits])
  have taken : CtlReceiver.take { phase := .check, length := n, bytes := covered ++ [hi], lastByte := now } lo
      = if [hi, lo] = checkBytes (crc covered) then (CtlReceiver.fresh, .whole (recordOf covered))
        else (CtlReceiver.fresh, .fails) := by
    have front : (covered ++ ([hi] ++ [lo])).take (n + 2) = covered := by rw [← fits, List.take_left]
    have back : (covered ++ ([hi] ++ [lo])).drop (n + 2) = [hi] ++ [lo] := by rw [← fits, List.drop_left]
    simp only [CtlReceiver.take, CtlReceiver.push, List.append_assoc, front, back]
    rw [if_neg (by simp [fits])]
    rfl
  refine ((congrArg (fun q => ControlPort.byte now q { byte := lo, stopBit := true }) first).trans
    (p.byte_next now lo taken)).trans ?_
  by_cases check : [hi, lo] = checkBytes (crc covered)
  · rw [if_pos check, if_pos check]
    rfl
  · rw [if_neg check, if_neg check]
    rfl

theorem stopped_append (a b : List Byte) : stopped (a ++ b) = stopped a ++ stopped b := List.map_append

/-- R162, R163: a record taken in HUNT, with whatever two bytes for its check. -/
theorem ControlPort.bytes_record {p : ControlPort} (now : ShowTime) (h : p.receiver.phase = .hunt) (kind : Byte)
    {body : List Byte} (short : body.length ≤ 1000) (hi lo : Byte) :
    (stopped (0xC3 :: (be16 (body.length + 1) ++ kind :: body) ++ [hi, lo])).foldl (ControlPort.byte now) p
      = if [hi, lo] = checkBytes (crc (be16 (body.length + 1) ++ kind :: body)) then
          (p.withReceiver { phase := .hunt, length := 0, bytes := [], lastByte := now }).accept
            { kind := kind, body := body }
        else (p.withReceiver { phase := .hunt, length := 0, bytes := [], lastByte := now }).raiseLineError := by
  have number : natOf (be16 (body.length + 1)) = body.length + 1 := natOf_be16 (by omega)
  have length := p.bytes_length now (byteOf ((body.length + 1) / 256)) (byteOf (body.length + 1))
    (by rw [← be16, number]; omega)
  rw [← be16, number] at length
  have fits : (be16 (body.length + 1) ++ kind :: body).length = body.length + 1 + 2 := by
    simp [be16]
  have record : recordOf (be16 (body.length + 1) ++ kind :: body) = { kind := kind, body := body } := rfl
  rw [List.cons_append, List.append_assoc, ← List.singleton_append, stopped_append, stopped_append, stopped_append,
    List.foldl_append, List.foldl_append, List.foldl_append]
  have sync : (stopped [0xC3]).foldl (ControlPort.byte now) p = _ := ControlPort.byte_sync now h
  rw [sync, length, ControlPort.bytes_kind_body, ControlPort.bytes_check _ _ _ _ fits, record]

/-- R165, R167: an accepted record. -/
theorem ControlPort.accept_eq (p : ControlPort) (r : CtlReceiver) (record : Record) :
    (p.withReceiver r).accept record =
      if p.requests.length < 4 then { p with receiver := r, requests := p.requests ++ [record] }
      else if (p.replies.filter (fun r => !r.taken)).length < 4 then
        { p with receiver := r, replies := p.replies ++
          [{ kind := record.kind ||| 0x80, taken := false, status := .full, body := .empty }] }
      else { p with receiver := r, lineError := { set := true, reported := false } } := rfl

theorem checkBytes_eq_pair (c : Check) : ∃ hi lo, checkBytes c = [hi, lo] := ⟨_, _, rfl⟩

/-! ### Reception as a command -/

theorem State.exec_bytes {s : State} (quiet : s.resetUnit.period = none) (bytes : List LineByte) :
    exec (.controlRecordReceive bytes) s = .next { s with port := bytes.foldl (ControlPort.byte s.showClock) s.port } :=
  if_neg (by simp [State.inReset, quiet])

theorem ControlPort.gap_iff {p : ControlPort} {now : ShowTime} :
    p.gap now = true ↔ p.receiver.phase ≠ .hunt ∧ 2000 < (now - p.receiver.lastByte).toNat := by
  unfold ControlPort.gap elapsed
  rw [Bool.and_eq_true, decide_eq_true_iff, decide_eq_true_iff]

theorem ControlPort.byte_unstopped (p : ControlPort) (now : ShowTime) (b : Byte) :
    p.byte now { byte := b, stopBit := false } = p.dropRecord := by
  simp only [ControlPort.byte]
  cases p.gap now <;> rfl

/-- Settles O42. -/
theorem recordsAreReceived : Obligations.RecordsAreReceived := by
  unfold Obligations.RecordsAreReceived
  intro s line hunting flagged
  refine ⟨?_, fun bytes period => ?_, fun quiet hunt => ⟨?_, ?_, ?_, ?_⟩, fun quiet b => ?_,
    fun quiet phase late => ?_, fun early => ?_⟩
  · simp [State.ready, State.inReset]
  · exact if_pos (Option.isSome_iff_ne_none.mpr period)
  · intro kind body short
    obtain ⟨hi, lo, check⟩ := checkBytes_eq_pair (crc (be16 (body.length + 1) ++ kind :: body))
    have taken := ControlPort.bytes_record s.showClock hunt kind short hi lo
    rw [← check, if_pos rfl, ControlPort.accept_eq] at taken
    rw [State.exec_bytes quiet]
    exact congrArg (fun q => Host.Outcome.next { s with port := q }) taken
  · intro kind hi lo body short covered wrong
    have taken := ControlPort.bytes_record s.showClock hunt kind short hi lo
    rw [if_neg wrong] at taken
    rw [State.exec_bytes quiet]
    exact congrArg (fun q => Host.Outcome.next { s with port := q }) taken
  · intro hi lo out
    have range : ¬ (1 ≤ natOf [hi, lo] ∧ natOf [hi, lo] ≤ 1001) := by
      simp only [natOf, List.foldl_cons, List.foldl_nil]
      omega
    have taken := s.port.bytes_length_bad s.showClock hi lo range
    rw [← ControlPort.byte_sync s.showClock hunt] at taken
    rw [State.exec_bytes quiet]
    exact congrArg (fun q => Host.Outcome.next { s with port := q }) taken
  · intro b other
    rw [State.exec_bytes quiet]
    exact congrArg (fun q => Host.Outcome.next { s with port := q })
      ((ControlPort.byte_taken (.inl hunt) b).trans (congrArg _ (CtlReceiver.take_hunt_other hunt other)))
  · rw [State.exec_bytes quiet]
    exact congrArg (fun q => Host.Outcome.next { s with port := q }) (s.port.byte_unstopped s.showClock b)
  · exact if_pos (by simp [ControlPort.gap_iff.mpr ⟨phase, late⟩, State.inReset, quiet])
  · refine if_neg ?_
    rw [Bool.and_eq_true, ControlPort.gap_iff, Bool.not_eq_true']
    rintro ⟨⟨phase, late⟩, quiet⟩
    rcases early with h | h | h
    · exact h (Option.isSome_eq_false_iff.mp quiet |> Option.isNone_iff_eq_none.mp)
    · exact phase h
    · omega

end Sys2Proof.Machine
end

section
/-!
The control port (10): the transmitter, the status word and the notice queue.
-/

namespace Sys2Proof.Machine

set_option Elab.async false

/-! ### The transmitter (R168, R170) -/

theorem State.transmitStarts_busy {s : State} (h : s.resetUnit.period ≠ none ∨ s.port.sending ≠ none) :
    s.transmitStarts = s := by
  unfold State.transmitStarts
  refine if_pos ?_
  rw [Bool.or_eq_true]
  exact h.imp Option.isSome_iff_ne_none.mpr Option.isSome_iff_ne_none.mpr

theorem State.transmitStarts_eq {s : State} (quiet : s.resetUnit.period = none) (free : s.port.sending = none) :
    s.transmitStarts =
      match s.port.replies, s.port.notices with
      | r :: rest, _ =>
        s.setPort { s.port.reportFlags with replies := rest, sending := some (.reply r s.statusWord) }
      | [], n :: rest => s.setPort { s.port with notices := rest, sending := some (.notice n) }
      | [], [] => s := by
  unfold State.transmitStarts
  refine (if_neg ?_).trans ?_
  · simp [State.inReset, quiet, free]
  · rfl

theorem State.transmitEnds_eq {s : State} (h : s.port.sentRestart = false) :
    s.transmitEnds = s.setPort s.port.sent := by
  unfold State.transmitEnds
  exact if_neg (by simp [h])

/-! ### The status word (R169) -/

/-- The fields of the status word, as a number. -/
def State.statusNumber (s : State) : Nat :=
  trackerCode (s.tracker.modeAt s.showClock) * 8192 + schedCode s.sched.mode * 2048
    + bit s.sched.blackout * 1024 + ownerCode s.own.state * 256 + bit s.linkQuiet * 128
    + bit s.change.isSome * 64 + bit (!s.port.notices.isEmpty) * 32 + bit s.port.lineError.set * 16
    + bit s.port.noticesDropped.set * 8 + bit s.port.showError.set * 4 + bit s.groupHold * 2
    + bit s.sched.pendingGo.isSome

theorem trackerCode_le (m : TrackerMode) : trackerCode m ≤ 4 := by cases m <;> decide

theorem schedCode_le (m : SchedMode) : schedCode m ≤ 2 := by cases m <;> decide

theorem ownerCode_le (o : OwnerState) : ownerCode o ≤ 3 := by cases o <;> decide

theorem bit_le (b : Bool) : bit b ≤ 1 := by cases b <;> decide

/-- A bit of a number whose place shows a flag. -/
theorem testBit_of_place {n i : Nat} {b : Bool} (h : n / 2 ^ i % 2 = bit b) : n.testBit i = b := by
  rw [Nat.testBit_eq_decide_div_mod_eq, h]
  cases b <;> rfl

theorem fields_of_word (t m b o q c n l d e g p : Nat) (ht : t ≤ 4) (hm : m ≤ 2) (hb : b ≤ 1) (ho : o ≤ 3) (hq : q ≤ 1)
    (hc : c ≤ 1) (hn : n ≤ 1) (hl : l ≤ 1) (hd : d ≤ 1) (he : e ≤ 1) (hg : g ≤ 1) (hp : p ≤ 1) :
    let w := t * 8192 + m * 2048 + b * 1024 + o * 256 + q * 128 + c * 64 + n * 32 + l * 16 + d * 8 + e * 4 + g * 2 + p
    w < 65536 ∧ w / 8192 = t ∧ w / 2048 % 4 = m ∧ w / 1024 % 2 = b ∧ w / 256 % 4 = o ∧ w / 128 % 2 = q
      ∧ w / 64 % 2 = c ∧ w / 32 % 2 = n ∧ w / 16 % 2 = l ∧ w / 8 % 2 = d ∧ w / 4 % 2 = e ∧ w / 2 % 2 = g
      ∧ w % 2 = p := by
  intro w
  refine ⟨?_, ?_, ?_, ?_, ?_, ?_, ?_, ?_, ?_, ?_, ?_, ?_, ?_⟩ <;> omega

theorem State.statusWord_fields (s : State) :
    let w := s.statusWord.toNat
    w / 8192 = trackerCode (s.tracker.modeAt s.showClock) ∧ w / 2048 % 4 = schedCode s.sched.mode
      ∧ w.testBit 10 = s.sched.blackout ∧ w / 256 % 4 = ownerCode s.own.state ∧ w.testBit 7 = s.linkQuiet
      ∧ w.testBit 6 = s.change.isSome ∧ (w.testBit 5 = true ↔ s.port.notices ≠ [])
      ∧ w.testBit 4 = s.port.lineError.set ∧ w.testBit 3 = s.port.noticesDropped.set
      ∧ w.testBit 2 = s.port.showError.set ∧ w.testBit 1 = s.groupHold
      ∧ w.testBit 0 = s.sched.pendingGo.isSome := by
  intro w
  obtain ⟨small, tracker, sched, dark, owner, quiet, flight, waits, line, dropped, show_, hold, go⟩ :=
    fields_of_word _ _ _ _ _ _ _ _ _ _ _ _ (trackerCode_le (s.tracker.modeAt s.showClock)) (schedCode_le s.sched.mode)
      (bit_le s.sched.blackout) (ownerCode_le s.own.state) (bit_le s.linkQuiet) (bit_le s.change.isSome)
      (bit_le (!s.port.notices.isEmpty)) (bit_le s.port.lineError.set) (bit_le s.port.noticesDropped.set)
      (bit_le s.port.showError.set) (bit_le s.groupHold) (bit_le s.sched.pendingGo.isSome)
  have number : w = s.statusNumber := (BitVec.toNat_ofNat ..).trans (Nat.mod_eq_of_lt small)
  rw [number]
  refine ⟨tracker, sched, testBit_of_place dark, owner, testBit_of_place quiet, testBit_of_place flight, ?_,
    testBit_of_place line, testBit_of_place dropped, testBit_of_place show_, testBit_of_place hold,
    testBit_of_place (by rw [pow_zero, Nat.div_one]; exact go)⟩
  rw [testBit_of_place waits]
  simp

/-! ### The notice queue (R171) -/

theorem State.post_eq {s : State} (quiet : s.resetUnit.period = none) {n : Notice} {q : List Notice}
    (h : enqueue s.port.notices n = (q, false)) : s.post n = s.withNotices q := by
  unfold State.post State.inReset
  simp only [quiet, h]
  rfl

theorem any_isPosition_eq_false {queue : List Notice} :
    queue.any Notice.isPosition = false ↔ ∀ x ∈ queue, x.isPosition = false := by
  simp [List.any_eq_false]

/-- With no POSITION in the queue a notice joins at the tail, the full queue giving up its oldest. -/
theorem enqueue_noPosition {queue : List Notice} (h : ∀ x ∈ queue, x.isPosition = false) (n : Notice) :
    enqueue queue n = if queue.length < 32 then (queue ++ [n], false) else (queue.tail ++ [n], true) := by
  simp only [enqueue, any_isPosition_eq_false.mpr h, Bool.and_false]
  rfl

/-- A POSITION takes the place of the queued one. -/
theorem enqueue_position {before after : List Notice} {m n : Notice} (hm : m.isPosition = true)
    (others : ∀ x ∈ before ++ after, x.isPosition = false) (hn : n.isPosition = true) :
    enqueue (before ++ m :: after) n = (before ++ n :: after, false) := by
  have keep : ∀ l : List Notice, (∀ x ∈ l, x.isPosition = false) →
      l.map (fun m => if m.isPosition then n else m) = l := fun l none =>
    (List.map_congr_left fun x hx => by simp [none x hx]).trans (List.map_id' l)
  have front := keep before fun x hx => others x (List.mem_append_left _ hx)
  have back := keep after fun x hx => others x (List.mem_append_right _ hx)
  unfold enqueue
  rw [if_pos (by simp [hn, hm]), List.map_append, List.map_cons, front, back, if_pos hm]

/-- Another notice joins at the tail, the full queue giving up its POSITION. -/
theorem enqueue_other {before after : List Notice} {m n : Notice} (hm : m.isPosition = true)
    (others : ∀ x ∈ before ++ after, x.isPosition = false) (hn : n.isPosition = false) :
    enqueue (before ++ m :: after) n =
      if (before ++ m :: after).length < 32 then (before ++ m :: after ++ [n], false)
      else (before ++ after ++ [n], false) := by
  have held : (before ++ m :: after).any Notice.isPosition = true := by simp [hm]
  have gone : (before ++ m :: after).eraseP Notice.isPosition = before ++ after := by
    rw [List.eraseP_append_right _ (fun x hx => by simp [others x (List.mem_append_left _ hx)]), List.eraseP_cons_of_pos hm]
  simp only [enqueue, hn, held, gone, Bool.false_and]
  rfl

/-- Settles O43. -/
theorem repliesAndNoticesAreSent : Obligations.RepliesAndNoticesAreSent := by
  unfold Obligations.RepliesAndNoticesAreSent
  refine ⟨fun s => ⟨fun h => congrArg _ (State.transmitStarts_busy h), fun quiet free => ⟨?_, ?_, ?_⟩, ?_, ?_,
    s.statusWord_fields⟩, fun s n => ?_⟩
  · intro r later replies
    refine congrArg _ ((State.transmitStarts_eq quiet free).trans ?_)
    rw [replies]
    rfl
  · intro n later replies notices
    refine congrArg _ ((State.transmitStarts_eq quiet free).trans ?_)
    rw [replies, notices]
    rfl
  · intro replies notices
    refine congrArg _ ((State.transmitStarts_eq quiet free).trans ?_)
    rw [replies, notices]
  · intro n sending
    refine congrArg _ ((State.transmitEnds_eq (by simp [ControlPort.sentRestart, sending])).trans ?_)
    simp only [ControlPort.sent, sending]
    rfl
  · intro r w sending other after
    have notRestart : s.port.sentRestart = false := by
      simp only [ControlPort.sentRestart, sending]
      rw [Bool.eq_false_iff]
      intro h
      simp only [Bool.and_eq_true, beq_iff_eq, decide_eq_true_eq] at h
      obtain ⟨⟨⟨taken, answers⟩, kind⟩, ok⟩ := h
      exact other ⟨taken, answers, kind, ok⟩
    refine congrArg _ ((State.transmitEnds_eq notRestart).trans ?_)
    simp only [ControlPort.sent, sending]
    rfl
  · intro queue
    refine ⟨fun period => if_pos (State.inReset_eq_true period), fun quiet =>
      ⟨fun before m after held hm others => ⟨fun hn => ?_, fun hn short => ?_, fun hn full => ?_⟩,
        fun others => ⟨fun short => ?_, fun full => ?_⟩⟩⟩
    · exact State.post_eq quiet ((congrArg (enqueue · n) held).trans (enqueue_position hm others hn))
    · refine State.post_eq quiet ((congrArg (enqueue · n) held).trans ?_)
      rw [held] at short ⊢
      rw [enqueue_other hm others hn, if_pos short]
    · refine State.post_eq quiet ((congrArg (enqueue · n) held).trans ?_)
      rw [held] at full
      rw [enqueue_other hm others hn, if_neg (by omega)]
    · exact State.post_eq quiet ((enqueue_noPosition others n).trans (if_pos short))
    · have dropped : enqueue s.port.notices n = (queue.tail ++ [n], true) :=
        (enqueue_noPosition others n).trans (if_neg (by omega))
      unfold State.post
      rw [if_neg (by simp [State.inReset, quiet]), dropped]
      rfl

end Sys2Proof.Machine
end

section
/-!
Stage cue listeners (08): the slots as requests set and read them.
-/

namespace Sys2Proof.Machine

set_option Elab.async false

/-! ### A slot's positions in ascending order (R143) -/

theorem insertPosition_eq (p : Nat) (ps : List Nat) : insertPosition p ps = ps.orderedInsert (· ≤ ·) p := by
  induction ps with
  | nil => rfl
  | cons q rest ih => rw [insertPosition, List.orderedInsert_cons, ih]

theorem sortPositions_eq_insertionSort (ps : List Nat) : sortPositions ps = ps.insertionSort (· ≤ ·) := by
  induction ps with
  | nil => rfl
  | cons p rest ih => rw [List.insertionSort_cons, ← ih, ← insertPosition_eq]; rfl

theorem sortPositions_eq {ps : List Nat} (range : ∀ p ∈ ps, p ≤ 31) (once : ps.Nodup) :
    sortPositions ps = (List.range 32).filter (fun p => ps.contains p) := by
  rw [sortPositions_eq_insertionSort]
  have same : List.Perm (ps.insertionSort (· ≤ ·)) ((List.range 32).filter (fun p => ps.contains p)) := by
    refine (List.perm_insertionSort _ ps).trans ?_
    rw [List.perm_ext_iff_of_nodup once (List.nodup_range.filter _)]
    intro p
    simp only [List.mem_filter, List.mem_range, List.contains_iff_mem]
    exact ⟨fun h => ⟨Nat.lt_succ_of_le (range p h), h⟩, fun h => h.2⟩
  refine same.eq_of_pairwise (le := (· ≤ ·)) (fun _ _ _ _ => Nat.le_antisymm) (List.pairwise_insertionSort _ ps) ?_
  exact (List.pairwise_lt_range.imp Nat.le_of_lt).filter _

/-! ### The checks (R143) -/

theorem positionsOk_iff {ps : List Nat} :
    positionsOk ps = true ↔ 1 ≤ ps.length ∧ ps.length ≤ 32 ∧ (∀ p ∈ ps, p ≤ 31) ∧ ps.Nodup := by
  simp only [positionsOk, Bool.and_eq_true, decide_eq_true_eq, List.all_eq_true, and_assoc]

theorem argumentOk_iff {action : SlotAction} {argument : Option Bbg} :
    argumentOk action argument = true ↔ (argument ≠ none ↔ action = .sync)
      ∧ ∀ p ∈ argument, 1 ≤ p.bar ∧ p.bar ≤ 9999 ∧ 1 ≤ p.beat ∧ p.beat ≤ 16 ∧ p.grain ≤ 191 := by
  cases argument with
  | none =>
    unfold argumentOk
    rw [decide_eq_true_iff]
    simp
  | some p =>
    have range : Config.lastBar = 9999 := rfl
    simp only [argumentOk, Bool.and_eq_true, decide_eq_true_eq, range, and_assoc]
    simp

theorem State.argumentRefusal_eq_none {s : State} {argument : Option Bbg}
    (h : ∀ p ∈ argument, s.meter ≠ [] ∧ toGrains s.meter p ≠ none) : s.argumentRefusal argument = none := by
  cases argument with
  | none => rfl
  | some p =>
    obtain ⟨map, converts⟩ := h p rfl
    simp [State.argumentRefusal, map, converts]

theorem State.setListenerRequest_eq {s : State} {n : Nat} {i : Fin 4} {l : ListenerSetup} {action : SlotAction}
    (hi : i.val = n) (ha : l.action = some action) :
    s.setListenerRequest n l =
      if !positionsOk l.positions || !argumentOk action l.argument then refuse s .badArgument else
      match s.argumentRefusal l.argument with
      | some code => refuse s code
      | none =>
        (s.setSlot i action l, if l.refractoryMs ≤ 2000 then .ok else .adjusted,
          .refractory (min l.refractoryMs 2000)) := by
  unfold State.setListenerRequest
  rw [fourth?_eq_some.mpr hi, ha] <;> rfl

theorem State.setListenerRequest_bad {s : State} {n : Nat} {l : ListenerSetup} (h : 4 ≤ n ∨ l.action = none) :
    s.setListenerRequest n l = refuse s .badArgument := by
  unfold State.setListenerRequest
  split
  case h_1 i action hi ha =>
    rw [fourth?_eq_some] at hi
    rcases h with h | h
    · omega
    · rw [h] at ha
      cases ha
  case h_2 => rfl

theorem fourth?_eq_none {n : Nat} (h : 4 ≤ n) : fourth? n = none := dif_neg (by omega)

/-- Settles O52. -/
theorem listenerSlotsAreSet : Obligations.ListenerSlotsAreSet := by
  unfold Obligations.ListenerSlotsAreSet
  intro s n body rest went disabled
  refine ⟨fun h l => ?_, fun h => ?_, fun h => ?_⟩
  · intro refused
    have taken : exec (.setListener n l) s = .next (answered kSetListener (went.setListenerRequest n l)) :=
      congrArg _ (h.answered (form := formFree) rfl _)
    refine ⟨fun bad => ?_, fun i action hi ha => ?_⟩
    · rw [taken, State.setListenerRequest_bad bad]
      exact congrArg _ (answered_refuse ..)
    · intro positionsFit argumentFits
      rw [taken, State.setListenerRequest_eq hi ha]
      have open_ : positionsFit → argumentFits →
          ¬ (!positionsOk l.positions || !argumentOk action l.argument) = true := by
        intro positions argument
        simp [positionsOk_iff.mpr positions, argumentOk_iff.mpr argument]
      refine ⟨fun bad => ?_, fun positions argument p hp => ⟨fun noMap => ?_, fun map outside => ?_⟩,
        fun positions argument converts => ?_⟩
      · rw [if_pos]
        · exact congrArg _ (answered_refuse ..)
        · rw [Bool.or_eq_true, Bool.not_eq_true', Bool.not_eq_true', ← Bool.not_eq_true, ← Bool.not_eq_true,
            positionsOk_iff, argumentOk_iff]
          exact not_and_or.mp bad
      · have refusal : went.argumentRefusal l.argument = some .refusedState := by
          rw [hp]
          exact if_pos noMap
        rw [if_neg (open_ positions argument), refusal]
        exact congrArg _ (answered_refuse ..)
      · have refusal : went.argumentRefusal l.argument = some .badArgument := by
          rw [hp]
          exact (if_neg map).trans (if_pos (Option.isNone_iff_eq_none.mpr outside))
        rw [if_neg (open_ positions argument), refusal]
        exact congrArg _ (answered_refuse ..)
      · intro slot
        rw [if_neg (open_ positions argument), State.argumentRefusal_eq_none (s := went) converts]
        obtain ⟨-, -, range, once⟩ := positions
        have code : (if l.refractoryMs ≤ 2000 then Status.ok else .adjusted) = .ok
            ∨ (if l.refractoryMs ≤ 2000 then Status.ok else .adjusted) = .adjusted := by
          split
          · exact .inl rfl
          · exact .inr rfl
        refine congrArg _ ((answered_taken _ _ _ code).trans ?_)
        simp only [State.setSlot, sortPositions_eq range once]
        rfl
  · have taken : exec (.clearListener n) s = .next (answered kClearListener (went.clearListenerRequest n)) :=
      congrArg _ (h.answered (form := formFree) rfl _)
    unfold State.clearListenerRequest at taken
    refine ⟨fun high => ?_, fun i hi => ?_⟩
    · rw [taken, fourth?_eq_none high]
      exact congrArg _ (answered_refuse ..)
    · rw [taken, fourth?_eq_some.mpr hi]
      rfl
  · have taken : exec (.readListener n) s = .next (answered kReadListener (went.readListenerRequest n)) :=
      congrArg _ (h.answered (form := formFree) rfl _)
    unfold State.readListenerRequest at taken
    refine ⟨fun high => ?_, fun i hi => ?_⟩
    · rw [taken, fourth?_eq_none high]
      exact congrArg _ (answered_refuse ..)
    · rw [taken, fourth?_eq_some.mpr hi]
      rfl

end Sys2Proof.Machine
end

section
/-!
Stage cue listeners (08): the show-control receiver, the slots a frame matches, and the actions.
-/

namespace Sys2Proof.Machine

set_option Elab.async false

/-! ### One byte at the receiver (R140) -/

theorem State.showGap_iff {s : State} :
    s.showGap = true ↔ s.listener.receiver.phase ≠ .hunt
      ∧ 2000 < (s.showClock - s.listener.receiver.lastByte).toNat := by
  unfold State.showGap elapsed
  rw [Bool.and_eq_true, decide_eq_true_iff, decide_eq_true_iff]

theorem State.no_showGap {s : State}
    (h : s.listener.receiver.phase = .hunt ∨ s.listener.receiver.lastByte = s.showClock) : s.showGap = false := by
  unfold State.showGap
  rcases h with h | h <;> simp [h, elapsed_self]

/-- What the receiver's step on a byte makes of the state. -/
def State.afterShow (s : State) (step : ShowReceiver × Taken (List Byte)) : State :=
  match step.2 with
  | .more => s.setShowReceiver { step.1 with lastByte := s.showClock }
  | .fails => (s.setShowReceiver { step.1 with lastByte := s.showClock }).raiseShowError
  | .whole body => (s.setShowReceiver { step.1 with lastByte := s.showClock }).handleFrame body

/-- A byte with its stop bit, the 2 ms not run out: the receiver takes it. -/
theorem State.showByte_taken {s : State}
    (h : s.listener.receiver.phase = .hunt ∨ s.listener.receiver.lastByte = s.showClock) (b : Byte) :
    s.showByte { byte := b, stopBit := true } = s.afterShow (s.listener.receiver.take b) := by
  unfold State.showByte
  rw [State.no_showGap h]
  rfl

/-- A further byte taken at one reading of the clock. -/
theorem State.showByte_next (s : State) {phase : ShowPhase} {n : Nat} {bs : List Byte} (b : Byte)
    {step : ShowReceiver × Taken (List Byte)}
    (taken : ShowReceiver.take { phase := phase, length := n, bytes := bs, lastByte := s.showClock } b = step) :
    (s.setShowReceiver { phase := phase, length := n, bytes := bs, lastByte := s.showClock }).showByte
        { byte := b, stopBit := true } = s.afterShow step :=
  (State.showByte_taken (s := s.setShowReceiver ⟨phase, n, bs, s.showClock⟩) (.inr rfl) b).trans
    (congrArg s.afterShow taken)

theorem State.showByte_unstopped (s : State) (b : Byte) :
    s.showByte { byte := b, stopBit := false } = s.dropShowFrame := by
  simp only [State.showByte]
  cases s.showGap <;> rfl

/-! ### The parts of a frame (R140, R141) -/

theorem State.showByte_sync {s : State} (h : s.listener.receiver.phase = .hunt) :
    s.showByte { byte := 0xD7, stopBit := true }
      = s.setShowReceiver { phase := .length, length := 0, bytes := [], lastByte := s.showClock } := by
  have taken : s.listener.receiver.take 0xD7
      = ({ s.listener.receiver with phase := .length, length := 0, bytes := [] }, .more) := by
    simp [ShowReceiver.take, h]
  exact (State.showByte_taken (.inl h) _).trans (congrArg s.afterShow taken)

theorem State.showByte_length (s : State) {n : Byte} (range : 1 ≤ n.toNat ∧ n.toNat ≤ 64) :
    (s.setShowReceiver { phase := .length, length := 0, bytes := [], lastByte := s.showClock }).showByte
        { byte := n, stopBit := true }
      = s.setShowReceiver { phase := .body, length := n.toNat, bytes := [n], lastByte := s.showClock } :=
  s.showByte_next n (step := (⟨.body, n.toNat, [n], s.showClock⟩, .more)) (if_pos range)

theorem State.showByte_length_bad (s : State) {n : Byte} (range : ¬ (1 ≤ n.toNat ∧ n.toNat ≤ 64)) :
    (s.setShowReceiver { phase := .length, length := 0, bytes := [], lastByte := s.showClock }).showByte
        { byte := n, stopBit := true }
      = (s.setShowReceiver { phase := .hunt, length := 0, bytes := [], lastByte := s.showClock }).raiseShowError :=
  s.showByte_next n (step := (ShowReceiver.fresh, .fails)) (if_neg range)

/-- The bytes of a body, up to the last. -/
theorem State.showBytes_body (s : State) (n : Nat) (before body : List Byte) (some : body ≠ [])
    (fits : before.length + body.length = n + 1) :
    (stopped body).foldl State.showByte
        (s.setShowReceiver { phase := .body, length := n, bytes := before, lastByte := s.showClock })
      = s.setShowReceiver { phase := .check, length := n, bytes := before ++ body, lastByte := s.showClock } := by
  induction body generalizing before with
  | nil => exact absurd rfl some
  | cons b rest ih =>
    by_cases last : rest = []
    · subst last
      have full : (before ++ [b]).length = n + 1 := by simpa using fits
      exact s.showByte_next b (step := (⟨.check, n, before ++ [b], s.showClock⟩, .more))
        (congrArg (·, Taken.more) (if_pos full))
    · have fits' : (before ++ [b]).length + rest.length = n + 1 := by
        simp only [List.length_cons, List.length_append, List.length_nil] at fits ⊢
        omega
      have more : (before ++ [b]).length ≠ n + 1 := by
        have := List.length_pos_of_ne_nil last
        omega
      have step := s.showByte_next (phase := .body) (n := n) (bs := before) b
        (step := (⟨.body, n, before ++ [b], s.showClock⟩, .more)) (congrArg (·, Taken.more) (if_neg more))
      have rest_taken := ih (before ++ [b]) last fits'
      rw [List.append_assoc] at rest_taken
      exact (congrArg (List.foldl _ · _) step).trans rest_taken

/-- The check of a frame: the bytes it covers have been taken. -/
theorem State.showBytes_check (s : State) (n : Nat) (covered : List Byte) (fits : covered.length = n + 1)
    (hi lo : Byte) :
    (stopped [hi, lo]).foldl State.showByte
        (s.setShowReceiver { phase := .check, length := n, bytes := covered, lastByte := s.showClock })
      = if [hi, lo] = checkBytes (crc covered) then
          (s.setShowReceiver { phase := .hunt, length := 0, bytes := [], lastByte := s.showClock }).handleFrame
            (covered.drop 1)
        else (s.setShowReceiver { phase := .hunt, length := 0, bytes := [], lastByte := s.showClock }).raiseShowError := by
  have first := s.showByte_next (phase := .check) (n := n) (bs := covered) hi
    (step := (⟨.check, n, covered ++ [hi], s.showClock⟩, .more))
    (by simp [ShowReceiver.take, ShowReceiver.push, fits])
  have taken : ShowReceiver.take { phase := .check, length := n, bytes := covered ++ [hi], lastByte := s.showClock } lo
      = if [hi, lo] = checkBytes (crc covered) then (ShowReceiver.fresh, .whole (covered.drop 1))
        else (ShowReceiver.fresh, .fails) := by
    have front : (covered ++ ([hi] ++ [lo])).take (n + 1) = covered := by rw [← fits, List.take_left]
    have back : (covered ++ ([hi] ++ [lo])).drop (n + 1) = [hi] ++ [lo] := by rw [← fits, List.drop_left]
    simp only [ShowReceiver.take, ShowReceiver.push, List.append_assoc, front, back]
    rw [if_neg (by simp [fits])]
    rfl
  refine ((congrArg (fun u => State.showByte u { byte := lo, stopBit := true }) first).trans
    (s.showByte_next lo taken)).trans ?_
  by_cases check : [hi, lo] = checkBytes (crc covered)
  · rw [if_pos check, if_pos check]
    rfl
  · rw [if_neg check, if_neg check]
    rfl

/-- R140, R141: a frame taken in HUNT, with whatever two bytes for its check. -/
theorem State.showBytes_frame {s : State} (quiet : s.resetUnit.period = none) (hunt : s.listener.receiver.phase = .hunt)
    {body : List Byte} (least : 1 ≤ body.length) (most : body.length ≤ 64) (hi lo : Byte) :
    s.showBytes (stopped (0xD7 :: byteOf body.length :: body ++ [hi, lo]))
      = if [hi, lo] = checkBytes (crc (byteOf body.length :: body)) then
          (s.setShowReceiver { phase := .hunt, length := 0, bytes := [], lastByte := s.showClock }).handleFrame body
        else (s.setShowReceiver { phase := .hunt, length := 0, bytes := [], lastByte := s.showClock }).raiseShowError := by
  have number : (byteOf body.length).toNat = body.length := by rw [byteOf_toNat]; omega
  have length := s.showByte_length (n := byteOf body.length) (by omega)
  rw [number] at length
  have taken := s.showBytes_body body.length [byteOf body.length] body (List.ne_nil_of_length_pos least)
    (by simp; omega)
  have check := s.showBytes_check body.length (byteOf body.length :: body) rfl hi lo
  have open_ : s.showBytes (stopped (0xD7 :: byteOf body.length :: body ++ [hi, lo]))
      = (stopped [hi, lo]).foldl State.showByte ((stopped body).foldl State.showByte
          ((s.showByte { byte := 0xD7, stopBit := true }).showByte { byte := byteOf body.length, stopBit := true })) := by
    have split : stopped (0xD7 :: byteOf body.length :: body ++ [hi, lo])
        = { byte := 0xD7, stopBit := true } :: { byte := byteOf body.length, stopBit := true }
            :: (stopped body ++ stopped [hi, lo]) := by
      simp [stopped]
    rw [split]
    refine (if_neg (by simp [State.inReset, quiet])).trans ?_
    rw [List.foldl_cons, List.foldl_cons, List.foldl_append]
  rw [open_, State.showByte_sync hunt, length, taken]
  exact check

/-! ### Matching (R146) -/

theorem selectedBytes_eq (body : List Byte) (positions : List Nat) :
    selectedBytes body positions =
      if ∀ p ∈ positions, p < body.length then some (positions.filterMap (fun p => body[p]?)) else none := by
  induction positions with
  | nil => rfl
  | cons p rest ih =>
    have step : selectedBytes body (p :: rest)
        = body[p]?.bind (fun b => (selectedBytes body rest).bind (fun bs => some (b :: bs))) := List.mapM_cons ..
    rw [step, ih]
    by_cases held : p < body.length
    · simp only [List.getElem?_eq_getElem held, Option.bind_some, List.forall_mem_cons, held, true_and,
        List.filterMap_cons]
      split_ifs <;> rfl
    · have out : ¬ ∀ q ∈ p :: rest, q < body.length := fun all => held (all p (List.mem_cons_self ..))
      rw [List.getElem?_eq_none (by omega), if_neg out]
      rfl

theorem slotSelects_iff {l : SlotSetup} {body : List Byte} :
    slotSelects l body = true ↔ (∀ p ∈ l.positions, p < body.length)
      ∧ crc (l.positions.filterMap (fun p => body[p]?)) = l.expected := by
  unfold slotSelects
  rw [selectedBytes_eq]
  by_cases held : ∀ p ∈ l.positions, p < body.length
  · rw [if_pos held]
    exact decide_eq_true_iff.trans (and_iff_right held).symm
  · rw [if_neg held]
    simp [held]

/-! ### Actions (R148, R150) -/

theorem State.deliver_taking {s : State} (taking : s.sched.mode ≠ .idle) (i : Fin 4) (l : SlotSetup) :
    s.deliver i l =
      match l.action with
      | .fireStage => s.latchAction i
      | .go => delivered s.goRequest
      | .hold => delivered s.holdRequest
      | .release => delivered s.releaseRequest
      | .blackout => delivered s.blackoutRequest
      | .lift => delivered s.liftRequest
      | .sync => delivered (s.syncAction l.argument) := by
  unfold State.deliver
  rw [if_neg taking] <;> rfl

/-- GO's reply body says that a cue fired or that the GO waits, or it is empty. -/
theorem State.goRequest_detail (s : State) :
    detailOf s.goRequest.2.1 s.goRequest.2.2 =
      match s.goRequest.2.2 with
      | .goFired c => .fired c
      | .goPending => .pending
      | _ => .none := by
  unfold State.goRequest
  split
  · rfl
  · split
    · rfl
    · split
      · split <;> rfl
      · rfl

theorem State.blackoutRequest_detail (s : State) :
    detailOf s.blackoutRequest.2.1 s.blackoutRequest.2.2 =
      match s.blackoutRequest.2.2 with
      | .dark a => .dark a
      | _ => .none := by
  unfold State.blackoutRequest
  split <;> rfl

theorem State.liftRequest_detail (s : State) :
    detailOf s.liftRequest.2.1 s.liftRequest.2.2 =
      match s.liftRequest.2.2 with
      | .lifted issued => .lift issued
      | _ => .none := by
  unfold State.liftRequest
  split <;> rfl

theorem State.syncReply_detail (s : State) (p : Bbg) :
    detailOf (s.syncReply p).2.1 (s.syncReply p).2.2 =
      if (s.syncReply p).2.1 = .ok ∨ (s.syncReply p).2.1 = .adjusted then .sync (s.syncRequest p).2.2 else .none := by
  change detailOf (s.syncReply p).2.1 (.position (s.syncRequest p).2.2) = _
  cases (s.syncReply p).2.1 <;> rfl

/-- Settles O53. -/
theorem showFramesMatchSlots : Obligations.ShowFramesMatchSlots := by
  unfold Obligations.ShowFramesMatchSlots
  intro s line hunting heard flagged tried
  have tries : ∀ body, State.trySlot body s.showClock = tried body := by
    intro body
    funext u i
    unfold State.trySlot tried
    cases setup : (u.listener.slots.get i).setup with
    | none => simp only [setup]
    | some l =>
      simp only [setup]
      refine if_congr ?_ (by simp only [State.matched, State.updSlot, setup]; rfl) rfl
      rw [Bool.and_eq_true, slotSelects_iff, Option.isNone_iff_eq_none, and_assoc]
  refine ⟨fun bytes period => ?_, fun quiet hunt body least most => ?_, fun quiet hunt n out => ?_, fun quiet b => ?_,
    fun quiet phase late => ?_, fun early => ?_, fun i l => ?_, fun i => ?_, fun n high => ?_⟩
  · have discarded : s.showBytes bytes = s := if_pos (State.inReset_eq_true period)
    exact ⟨congrArg _ discarded, congrArg _ discarded⟩
  · intro covered
    refine ⟨?_, fun hi lo wrong => ?_⟩
    · obtain ⟨hi, lo, check⟩ := checkBytes_eq_pair (crc covered)
      have taken := State.showBytes_frame quiet hunt least most hi lo
      rw [if_pos check.symm] at taken
      rw [check, ← tries]
      exact congrArg _ taken
    · have taken := State.showBytes_frame quiet hunt least most hi lo
      rw [if_neg wrong] at taken
      exact congrArg _ taken
  · have range : ¬ (1 ≤ n.toNat ∧ n.toNat ≤ 64) := by
      rcases out with rfl | out
      · decide
      · omega
    have taken := s.showByte_length_bad range
    rw [← State.showByte_sync hunt] at taken
    exact congrArg _ ((if_neg (by simp [State.inReset, quiet])).trans taken)
  · exact congrArg _ ((if_neg (by simp [State.inReset, quiet])).trans (s.showByte_unstopped b))
  · exact if_pos (by simp [State.showGap_iff.mpr ⟨phase, late⟩, State.inReset, quiet])
  · refine if_neg ?_
    rw [Bool.and_eq_true, State.showGap_iff]
    rintro ⟨⟨phase, late⟩, -⟩
    rcases early with h | h
    · exact phase h
    · omega
  · intro slot asRequest
    refine ⟨fun rests => if_pos rests, fun taking => ?_⟩
    have act := State.deliver_taking taking i l
    refine ⟨fun action => ?_, fun action => ?_, fun action => ?_, fun action => ?_, fun action => ?_, fun action => ?_,
      fun action p argument => ?_⟩
    all_goals rw [action] at act
    · exact act
    · exact act.trans (by rw [State.holdRequest, if_neg taking]; rfl)
    · exact act.trans (by rw [State.releaseRequest, if_neg taking]; rfl)
    · exact act.trans (congrArg (fun d => (_, _, d)) s.goRequest_detail)
    · exact act.trans (congrArg (fun d => (_, _, d)) s.blackoutRequest_detail)
    · exact act.trans (congrArg (fun d => (_, _, d)) s.liftRequest_detail)
    · rw [argument] at act
      exact act.trans (congrArg (fun d => (_, _, d)) (s.syncReply_detail p))
  · unfold exec execRefractoryExpiry
    simp only [fourth?_val]
    rfl
  · unfold exec execRefractoryExpiry
    simp only [fourth?_eq_none high]

end Sys2Proof.Machine
end

section
/-!
Line test and survey (09).
-/

namespace Sys2Proof.Machine

set_option Elab.async false

/-! ### Reflections (R153) -/

/-- R153: the first sample of a window with at least a quarter of the amplitude. -/
theorem firstReflection_eq (amplitude k : Nat) (samples : List Int) :
    firstReflection amplitude (k + 1) samples =
      ((samples.zipIdx k).find? (fun (x : Int × Nat) => decide (amplitude ≤ 4 * x.1.natAbs))).map
        (fun (x : Int × Nat) =>
          { delayNs := 4 * (x.2 + 1)
            cls := if 3 * amplitude < 4 * x.1.natAbs then (if 0 < x.1 then .opened else .shorted) else .mismatch }) := by
  induction samples generalizing k with
  | nil => rfl
  | cons x rest ih =>
    simp only [firstReflection, reflects, List.zipIdx_cons, Nat.mul_comm x.natAbs 4]
    by_cases seen : amplitude ≤ 4 * x.natAbs
    · rw [if_pos (decide_eq_true seen), List.find?_cons_of_pos (by simpa using seen)]
      simp only [classOf, Nat.mul_comm x.natAbs 4, Option.map_some]
    · rw [if_neg (by simpa using seen), List.find?_cons_of_neg (by simpa using seen), ih]

theorem echoReflection_eq (e : Echo) :
    echoReflection e =
      ((e.samples.take 500).zipIdx.find? (fun (x : Int × Nat) => decide (e.amplitude ≤ 4 * x.1.natAbs))).map
        (fun (x : Int × Nat) =>
          { delayNs := 4 * (x.2 + 1)
            cls := if 3 * e.amplitude < 4 * x.1.natAbs then (if 0 < x.1 then .opened else .shorted) else .mismatch }) :=
  firstReflection_eq e.amplitude 0 (e.samples.take 500)

/-! ### The result (R154, R155) -/

theorem length_of_classes (rs : List Reflection) :
    rs.length = (ofClass .shorted rs).length + (ofClass .opened rs).length + (ofClass .mismatch rs).length := by
  induction rs with
  | nil => rfl
  | cons r rest ih =>
    have step : ∀ cls, (ofClass cls (r :: rest)).length
        = (ofClass cls rest).length + if r.cls = cls then 1 else 0 := by
      intro cls
      unfold ofClass
      rw [List.filter_cons]
      by_cases same : r.cls = cls <;> simp [same]
    rw [List.length_cons, step, step, step]
    cases r.cls <;> simp <;> omega

/-- R154: the class that most records hold, ties going to SHORT, then to OPEN. -/
theorem resultClass_most (rs : List Reflection) :
    (∀ d, (ofClass d rs).length ≤ (ofClass (resultClass rs) rs).length)
      ∧ (resultClass rs ≠ .shorted → (ofClass .shorted rs).length < (ofClass (resultClass rs) rs).length)
      ∧ (resultClass rs = .mismatch → (ofClass .opened rs).length < (ofClass (resultClass rs) rs).length) := by
  unfold resultClass
  simp only
  split_ifs with short opened
  · refine ⟨fun d => ?_, fun other => absurd rfl other, fun other => nomatch other⟩
    cases d <;> omega
  · refine ⟨fun d => ?_, fun _ => ?_, fun other => nomatch other⟩
    · cases d <;> omega
    · omega
  · refine ⟨fun d => ?_, fun _ => ?_, fun _ => ?_⟩
    · cases d <;> omega
    · omega
    · omega

/-- A division rounded to the nearest integer, a tie up. -/
theorem roundDiv_bounds (n : Nat) {d : Nat} (h : 0 < d) :
    2 * n < d * (2 * roundDiv n d + 1) ∧ d * (2 * roundDiv n d) ≤ 2 * n + d := by
  have whole := Nat.div_add_mod (2 * n + d) (2 * d)
  have part := Nat.mod_lt (2 * n + d) (show 0 < 2 * d by omega)
  have rounded : roundDiv n d = (2 * n + d) / (2 * d) := rfl
  rw [← rounded] at whole
  have double : d * (2 * roundDiv n d) = 2 * d * roundDiv n d := by ring
  rw [Nat.mul_add, double]
  omega

theorem meanDelay_bounds {rs : List Reflection} (h : rs ≠ []) :
    meanDelay rs % 4 = 0
      ∧ 2 * (rs.map (fun r => r.delayNs)).sum < (2 * meanDelay rs + 4) * rs.length
      ∧ 2 * meanDelay rs * rs.length ≤ 2 * (rs.map (fun r => r.delayNs)).sum + 4 * rs.length := by
  have some := List.length_pos_of_ne_nil h
  obtain ⟨below, above⟩ := roundDiv_bounds (rs.map (fun r => r.delayNs)).sum (show 0 < 4 * rs.length by omega)
  have mean : meanDelay rs = 4 * roundDiv (rs.map (fun r => r.delayNs)).sum (4 * rs.length) := rfl
  refine ⟨by omega, ?_, ?_⟩
  · rw [mean]
    calc _ < _ := below
      _ = _ := by ring
  · rw [mean]
    calc _ = _ := by ring
      _ ≤ _ := above

theorem not_reached {now due : ShowTime} (h : 2 ^ 31 ≤ (now - due).toNat) : ¬ reached now due = true := by
  rw [reached_iff]
  omega

/-- Settles O54. -/
theorem lineTestFindsTheFault : Obligations.LineTestFindsTheFault := by
  unfold Obligations.LineTestFindsTheFault
  intro s e reflection
  have seen : echoReflection e = reflection := echoReflection_eq e
  refine ⟨fun rest h => ?_, fun idle => ?_, fun start running => ⟨?_, fun early => ?_, fun due => ?_⟩⟩
  · intro went
    have taken : exec (.lineTest e) s = .next (answered kLineTest (went.lineTestRequest e)) :=
      congrArg _ (h.answered (form := formEmpty) rfl _)
    rw [taken]
    refine congrArg _ ?_
    by_cases refused : s.own.state ≠ .granted ∨ s.own.peerDrive = true
    · rw [if_pos refused, State.lineTestRequest, if_pos (show went.own.state ≠ .granted ∨ went.own.peerDrive = true from refused)]
      exact answered_refuse ..
    rw [if_neg refused, State.lineTestRequest, if_neg (show ¬ (went.own.state ≠ .granted ∨ went.own.peerDrive = true) from refused)]
    by_cases busy : s.lineTest.started ≠ none
    · rw [if_pos busy, if_pos (show went.lineTest.started.isSome = true from Option.isSome_iff_ne_none.mpr busy)]
      exact answered_refuse ..
    · rw [if_neg busy, if_neg (show ¬ went.lineTest.started.isSome = true from mt Option.isSome_iff_ne_none.mp busy), ← seen]
      rfl
  · unfold exec execLineTestPulse execLineTestComplete
    simp only [idle, and_self]
  · unfold exec execLineTestPulse
    simp only [running]
    rw [← seen, ← apply_ite Host.Outcome.next]
    refine congrArg _ (if_congr ?_ (by simp only [LineTest.pulse, running]) rfl)
    rw [Bool.and_eq_true, decide_eq_true_iff, reached_iff]
    rfl
  · unfold exec execLineTestComplete
    simp only [running]
    exact if_neg (not_reached early)
  · intro held done
    have completed : exec .lineTestComplete s = .next (done (outcomeOf s.lineTest.reflections s.params.velocityFactor)) := by
      unfold exec execLineTestComplete
      simp only [running]
      exact if_pos (reached_iff.mpr due)
    refine ⟨fun few => ?_, fun enough => ?_⟩
    · rw [completed, outcomeOf, if_pos few]
    · obtain ⟨most, overShort, overOpen⟩ := resultClass_most s.lineTest.reflections
      have some : ofClass (resultClass s.lineTest.reflections) s.lineTest.reflections ≠ [] := by
        have split := length_of_classes s.lineTest.reflections
        have short := most .shorted
        have opened := most .opened
        have mismatch := most .mismatch
        intro none
        rw [none] at short opened mismatch
        simp only [List.length_nil] at short opened mismatch
        omega
      obtain ⟨multiple, below, above⟩ := meanDelay_bounds some
      obtain ⟨near, far⟩ := roundDiv_bounds
        (meanDelay (ofClass (resultClass s.lineTest.reflections) s.lineTest.reflections) * s.params.velocityFactor * 3)
        (show 0 < 200 by decide)
      exact ⟨_, _, _, by rw [completed, outcomeOf, if_neg (by omega)]; rfl, most, overShort, overOpen, multiple, below, above,
        near, far⟩

end Sys2Proof.Machine
end

section
/-!
The tile survey (09, section 9.2): its start and its report.
-/

namespace Sys2Proof.Machine

set_option Elab.async false

/-! ### What the survey found, by address -/

theorem Survey.mem_byAddress {v : Survey} {a : Nat} {f : Found} :
    (a, f) ∈ v.byAddress ↔ 1 ≤ a ∧ v.found[a - 1]? = some f := by
  simp only [Survey.byAddress, List.mem_map, List.mem_zipIdx_iff_getElem?, Prod.exists, Prod.mk.injEq]
  constructor
  · rintro ⟨g, k, held, rfl, rfl⟩
    exact ⟨by omega, held⟩
  · rintro ⟨least, held⟩
    exact ⟨f, a - 1, held, by omega, rfl⟩

theorem Survey.mem_byAddress_of_least {v : Survey} {a : Nat} (least : 1 ≤ a) {f : Found} :
    (a, f) ∈ v.byAddress ↔ v.found[a - 1]? = some f :=
  Survey.mem_byAddress.trans (and_iff_right least)

theorem Survey.byAddress_ascends (v : Survey) : v.byAddress.Pairwise (fun p q => p.1 < q.1) := by
  have places : (v.found.zipIdx.map Prod.snd).Pairwise (· < ·) := by
    rw [List.zipIdx_map_snd]
    exact List.pairwise_lt_range'
  rw [Survey.byAddress, List.pairwise_map]
  exact (List.pairwise_map.mp places).imp fun h => by simpa using h

/-- A report's list that takes some of the addresses ascends as they do. -/
theorem Survey.ascends_filterMap {β : Type} (v : Survey) {g : Nat × Found → Option β} {address : β → Nat}
    (h : ∀ p b, g p = some b → address b = p.1) : ((v.byAddress.filterMap g).map address).Pairwise (· < ·) := by
  rw [List.pairwise_map, List.pairwise_filterMap]
  refine v.byAddress_ascends.imp ?_
  intro p q less b hb c hc
  rw [h p b hb, h q c hc]
  exact less

/-! ### The screen of an address -/

theorem State.tiles_of_screenOf {s : State} {a : Nat} {i : Fin 4} (h : s.screenOf a = some i) :
    a ∈ (s.screens.get i).tiles := by
  unfold State.screenOf at h
  exact List.contains_iff_mem.mp (List.find?_some h :)

theorem State.screenOf_eq_some {s : State} (ok : ScreensOk s.screens) {a : Nat} {i : Fin 4} :
    s.screenOf a = some i ↔ a ∈ (s.screens.get i).tiles := by
  constructor
  · exact State.tiles_of_screenOf
  · intro held
    cases h : s.screenOf a with
    | none =>
      have none := List.find?_eq_none.mp h i (mem_fourNumbers i)
      exact absurd (List.contains_iff_mem.mpr held) none
    | some j =>
      by_cases same : i = j
      · rw [same]
      · exact absurd (State.tiles_of_screenOf h) (ok.apart i j same a held)

theorem State.screenOf_eq_none {s : State} {a : Nat} : s.screenOf a = none ↔ ∀ i, a ∉ (s.screens.get i).tiles := by
  unfold State.screenOf
  rw [List.find?_eq_none]
  constructor
  · intro h i held
    exact h i (mem_fourNumbers i) (List.contains_iff_mem.mpr held)
  · intro h i _ held
    exact h i (List.contains_iff_mem.mp held)

/-! ### The judgement of one address (R160) -/

/-- The address a mismatch is of. -/
def Mismatch.address (m : Mismatch) : Nat :=
  match m with
  | .absentConfigured a _ => a
  | .unassigned a => a
  | .shortCapacity a _ _ _ => a

/-- What `State.mismatch` judges, as the state's screens have it. -/
theorem State.mismatch_eq_some {s : State} {a : Nat} {f : Found} {m : Mismatch} :
    s.mismatch a f = some m ↔
      (f = .unanswered ∧ ∃ i, s.screenOf a = some i ∧ m = .absentConfigured a i)
      ∨ ((∃ k st, f = .answered k st) ∧ s.screenOf a = none ∧ m = .unassigned a)
      ∨ ∃ k st i u, f = .answered k st ∧ s.screenOf a = some i ∧ (s.screens.get i).setup = some u ∧ k < u.cpt
          ∧ m = .shortCapacity a i k u.cpt := by
  unfold State.mismatch
  cases f with
  | notPolled => simp
  | unanswered => cases s.screenOf a <;> simp [eq_comm]
  | answered k st =>
    cases s.screenOf a with
    | none => simp [eq_comm]
    | some i =>
      cases setup : (s.screens.get i).setup with
      | none => simp [setup]
      | some u =>
        by_cases short : k < u.cpt
        · simp [setup, short, eq_comm]
        · simp [setup, short]

theorem State.mismatch_address {s : State} {a : Nat} {f : Found} {m : Mismatch} (h : s.mismatch a f = some m) :
    m.address = a := by
  rcases State.mismatch_eq_some.mp h with ⟨-, i, -, rfl⟩ | ⟨-, -, rfl⟩ | ⟨k, st, i, u, -, -, -, -, rfl⟩ <;> rfl

/-- A mismatch stands in the report by what was found at its own address. -/
theorem State.mem_mismatches {s : State} {abort : Option SurveyAbort} {m : Mismatch} (least : 1 ≤ m.address) :
    m ∈ (s.surveyReport abort).mismatches
      ↔ ∃ f, s.survey.found[m.address - 1]? = some f ∧ s.mismatch m.address f = some m := by
  unfold State.surveyReport
  simp only [List.mem_filterMap, Prod.exists]
  constructor
  · rintro ⟨a, f, held, judged⟩
    obtain rfl := State.mismatch_address judged
    exact ⟨f, (Survey.mem_byAddress.mp held).2, judged⟩
  · rintro ⟨f, held, judged⟩
    exact ⟨m.address, f, (Survey.mem_byAddress_of_least least).mpr held, judged⟩

theorem State.mem_present {s : State} {abort : Option SurveyAbort} {a k : Nat} {st : Nat} (least : 1 ≤ a) :
    (a, k, st) ∈ (s.surveyReport abort).present ↔ s.survey.found[a - 1]? = some (.answered k st) := by
  rw [← Survey.mem_byAddress_of_least least]
  unfold State.surveyReport
  simp only [List.mem_filterMap, Prod.exists]
  constructor
  · rintro ⟨b, f, held, found⟩
    cases f <;> cases found
    exact held
  · exact fun held => ⟨a, _, held, rfl⟩

theorem State.mem_notPolled {s : State} {abort : Option SurveyAbort} {a : Nat} (least : 1 ≤ a) :
    a ∈ (s.surveyReport abort).notPolled ↔ s.survey.found[a - 1]? = some .notPolled := by
  rw [← Survey.mem_byAddress_of_least least]
  simp [State.surveyReport]

/-- Settles O55. -/
theorem surveyIsStartedAndJudged : Obligations.SurveyIsStartedAndJudged := by
  unfold Obligations.SurveyIsStartedAndJudged
  intro s rest went started
  refine ⟨fun h => ?_, fun abort _ ok => ?_⟩
  · have taken : exec .survey s = .next (answered kSurvey went.surveyRequest) :=
      congrArg _ (h.answered (form := formEmpty) rfl _)
    unfold State.surveyRequest at taken
    refine ⟨fun driving active idle => ?_, fun refused => ?_, fun driving active busy => ?_⟩
    · have open_ : ¬ (went.own.state ≠ .driving ∨ went.bus.link ≠ .active) := by
        rintro (h | h)
        · exact h driving
        · exact h active
      rw [taken, if_neg open_, if_neg (show ¬ went.survey.running = true from Bool.eq_false_iff.mp idle)]
      rfl
    · rw [taken, if_pos (show went.own.state ≠ .driving ∨ went.bus.link ≠ .active from refused)]
      exact congrArg _ (answered_refuse ..)
    · have open_ : ¬ (went.own.state ≠ .driving ∨ went.bus.link ≠ .active) := by
        rintro (h | h)
        · exact h driving
        · exact h active
      rw [taken, if_neg open_, if_pos (show went.survey.running = true from busy)]
      exact congrArg _ (answered_refuse ..)
  · intro report address
    refine ⟨rfl, rfl, ?_, ?_, ?_, fun a k st least => State.mem_present least, fun a least => State.mem_notPolled least,
      fun a i least => ?_, fun a least => ?_, fun a i k cpt least => ?_⟩
    · refine s.survey.ascends_filterMap fun p b h => ?_
      obtain ⟨a, f⟩ := p
      cases f <;> cases h
      rfl
    · exact s.survey.ascends_filterMap (address := Mismatch.address) fun p b h => State.mismatch_address h
    · refine List.pairwise_map.mpr (s.survey.byAddress_ascends.filter _)
    · rw [State.mem_mismatches (m := .absentConfigured a i) least, ← State.screenOf_eq_some ok]
      simp [State.mismatch_eq_some, Mismatch.address]
    · rw [State.mem_mismatches (m := .unassigned a) least, ← State.screenOf_eq_none]
      simp [State.mismatch_eq_some, Mismatch.address]
    · rw [State.mem_mismatches (m := .shortCapacity a i k cpt) least]
      simp only [Mismatch.address]
      constructor
      · rintro ⟨f, held, judged⟩
        rcases State.mismatch_eq_some.mp judged with ⟨-, j, -, other⟩ | ⟨-, -, other⟩ | ⟨k', st, j, u, rfl, at_, set, short, same⟩
        · cases other
        · cases other
        · cases same
          exact ⟨⟨st, held⟩, short, u, set, rfl, by simpa [Screen.tiles, set] using State.tiles_of_screenOf at_⟩
      · rintro ⟨⟨st, held⟩, short, u, set, rfl, member⟩
        have at_ : s.screenOf a = some i := (State.screenOf_eq_some ok).mpr (by simpa [Screen.tiles, set] using member)
        exact ⟨_, held, State.mismatch_eq_some.mpr (.inr (.inr ⟨k, st, i, u, rfl, at_, set, short, rfl⟩))⟩

end Sys2Proof.Machine
end

section
/-!
Record and frame formats (11): what is written reads back.
-/

namespace Sys2Proof.Machine

set_option Elab.async false

/-! ### Fields of one, two and four bytes -/

theorem u8_byteOf {n : Nat} (h : n < 256) (rest : List Byte) : u8 (byteOf n :: rest) = some (n, rest) := by
  rw [u8, byteOf_toNat, Nat.mod_eq_of_lt h]

theorem u16_be16 {n : Nat} (h : n < 65536) (rest : List Byte) : u16 (be16 n ++ rest) = some (n, rest) := by
  have number : (byteOf (n / 256)).toNat * 256 + (byteOf n).toNat = n := by
    rw [byteOf_toNat, byteOf_toNat]
    omega
  exact congrArg (fun k => some (k, rest)) number

theorem u32_be32 {n : Nat} (h : n < 2 ^ 32) (rest : List Byte) : u32 (be32 n ++ rest) = some (n, rest) := by
  have number : (((byteOf (n / 16777216)).toNat * 256 + (byteOf (n / 65536)).toNat) * 256 + (byteOf (n / 256)).toNat) * 256
      + (byteOf n).toNat = n := by
    simp only [byteOf_toNat]
    omega
  exact congrArg (fun k => some (k, rest)) number

/-! ### Composite fields -/

/-- A reader's first field read, the rest is read from what follows it. -/
theorem bind_read {α β : Type} {first : Option α} {a : α} {next : α → Option β} {b : β} (h : first = some a)
    (more : next a = some b) : first >>= next = some b := by
  rw [h]
  exact more

/-- A reader takes back what a writer wrote of an item and leaves the rest. -/
def ReadsBack {α : Type} (read : List Byte → Option (α × List Byte)) (write : α → List Byte) (a : α) : Prop :=
  ∀ rest, read (write a ++ rest) = some (a, rest)

theorem readsBack_u8 {n : Nat} (h : n < 256) : ReadsBack u8 (fun n => [byteOf n]) n := u8_byteOf h

theorem readsBack_u16 {n : Nat} (h : n < 65536) : ReadsBack u16 be16 n := u16_be16 h

theorem readsBack_bbg {p : Bbg} (bar : p.bar < 65536) (beat : p.beat < 256) (grain : p.grain < 256) :
    ReadsBack readBbg bbgBytes p := by
  intro rest
  simp only [readBbg, bbgBytes, List.append_assoc, List.cons_append, List.nil_append, u16_be16 bar, u8_byteOf beat,
    u8_byteOf grain, Option.bind_eq_bind, Option.bind_some]

/-- A field that may be absent reads back by its presence bit. -/
theorem readIf_optBytes {α : Type} {read : List Byte → Option (α × List Byte)} {write : α → List Byte} {o : Option α}
    (h : ∀ a ∈ o, ReadsBack read write a) (rest : List Byte) :
    readIf o.isSome read (optBytes write o ++ rest) = some (o, rest) := by
  cases o with
  | none => rfl
  | some a =>
    simp only [readIf, optBytes, Option.isSome_some, h a rfl rest]

theorem readMany_flatMap {α : Type} {read : List Byte → Option (α × List Byte)} {write : α → List Byte} {as : List α}
    (h : ∀ a ∈ as, ReadsBack read write a) (rest : List Byte) :
    readMany read as.length (as.flatMap write ++ rest) = some (as, rest) := by
  induction as with
  | nil => rfl
  | cons a more ih =>
    obtain ⟨first, others⟩ := List.forall_mem_cons.mp h
    simp only [List.flatMap_cons, List.append_assoc, List.length_cons, readMany, first _, ih others]

theorem readMany_flatMap_end {α : Type} {read : List Byte → Option (α × List Byte)} {write : α → List Byte} {as : List α}
    (h : ∀ a ∈ as, ReadsBack read write a) : readMany read as.length (as.flatMap write) = some (as, []) := by
  simpa using readMany_flatMap h []

/-! ### Flags in a byte -/

theorem bit_testBit_zero (b : Bool) : (bit b).testBit 0 = b := by cases b <;> rfl

theorem flags_five (a b c d e : Bool) :
    let n := bit a + 2 * bit b + 4 * bit c + 8 * bit d + 16 * bit e
    n < 32 ∧ n.testBit 0 = a ∧ n.testBit 1 = b ∧ n.testBit 2 = c ∧ n.testBit 3 = d ∧ n.testBit 4 = e := by
  revert a b c d e
  decide

theorem flags_three (a b c : Bool) :
    let n := bit a + 2 * bit b + 4 * bit c
    n < 8 ∧ n.testBit 0 = a ∧ n.testBit 1 = b ∧ n.testBit 2 = c := by
  revert a b c
  decide

theorem flags_two (a b : Bool) :
    let n := bit a + 2 * bit b
    n < 4 ∧ n.testBit 0 = a ∧ n.testBit 1 = b := by
  revert a b
  decide

/-! ### The cue record and the page record -/

theorem cueKindOf_code (k : CueKind) : cueKindOf (cueKindCode k) = some k := by cases k <;> rfl

theorem cueKindCode_lt (k : CueKind) : cueKindCode k < 256 := by cases k <;> decide

theorem readsBack_pageRef {r : PageRef} (lane : r.lane < 256) (page : r.page < 65536) :
    ReadsBack readPageRef (fun r => byteOf r.lane :: be16 r.page) r := by
  intro rest
  simp only [readPageRef, List.cons_append, u8_byteOf lane, u16_be16 page, Option.bind_eq_bind, Option.bind_some]

theorem CueRecord.wf_iff {c : CueRecord} :
    c.wf = true ↔ c.number < 65536 ∧ (∀ p ∈ c.anchor, p.bar < 65536 ∧ p.beat < 256 ∧ p.grain < 256)
      ∧ (∀ n ∈ c.slot, n < 256) ∧ (∀ n ∈ c.delayMs, n < 65536) ∧ (∀ n ∈ c.leadMs, n < 65536)
      ∧ (∀ n ∈ c.dwellMs, n < 65536) ∧ c.pages.length < 256 ∧ ∀ r ∈ c.pages, r.lane < 256 ∧ r.page < 65536 := by
  have field : ∀ (most : Nat) (o : Option Nat),
      optFits (fun n => decide (n < most)) o = true ↔ ∀ n ∈ o, n < most := by
    intro most o
    cases o <;> simp [optFits]
  have anchor : (match c.anchor with | none => true | some a => a.wf) = true
      ↔ ∀ p ∈ c.anchor, p.bar < 65536 ∧ p.beat < 256 ∧ p.grain < 256 := by
    cases c.anchor <;> simp [Bbg.wf, fits16, fits8, and_assoc]
  have pages : c.pages.all (fun r => fits8 r.lane && fits16 r.page) = true
      ↔ ∀ r ∈ c.pages, r.lane < 256 ∧ r.page < 65536 := by
    simp [fits16, fits8]
  unfold CueRecord.wf
  simp only [Bool.and_eq_true, pages, and_assoc]
  exact and_congr decide_eq_true_iff (and_congr anchor (and_congr (field 256 _) (and_congr (field 65536 _)
    (and_congr (field 65536 _) (and_congr (field 65536 _) (and_congr_left' decide_eq_true_iff))))))

theorem cueBytes_eq (c : CueRecord) :
    cueBytes c = be16 c.number ++ (byteOf (cueKindCode c.kind) :: byteOf (cuePresence c)
      :: byteOf (bit c.essential + 2 * bit c.cut)
      :: (optBytes bbgBytes c.anchor ++ (optBytes (fun n => [byteOf n]) c.slot ++ (optBytes be16 c.delayMs
        ++ (optBytes be16 c.leadMs ++ (optBytes be16 c.dwellMs ++ (byteOf c.pages.length
          :: c.pages.flatMap (fun r => byteOf r.lane :: be16 r.page)))))))) := by
  simp [cueBytes]

theorem parseCue_cueBytes {c : CueRecord} (h : c.wf = true) : parseCue (cueBytes c) = some c := by
  obtain ⟨number, anchor, slot, delay, lead, dwell, count, pages⟩ := CueRecord.wf_iff.mp h
  obtain ⟨few, p0, p1, p2, p3, p4⟩ :=
    flags_five c.anchor.isSome c.slot.isSome c.delayMs.isSome c.leadMs.isSome c.dwellMs.isSome
  obtain ⟨small, f0, f1⟩ := flags_two c.essential c.cut
  have presence : cuePresence c < 32 := few
  have defined : ¬ (cuePresence c ≥ 32 ∨ bit c.essential + 2 * bit c.cut ≥ 4) := by omega
  have read : ∀ {α : Type} {reader : List Byte → Option (α × List Byte)} {write : α → List Byte} {o : Option α}
      (k : Nat), (cuePresence c).testBit k = o.isSome → (∀ a ∈ o, ReadsBack reader write a) → ∀ rest,
      readIf ((cuePresence c).testBit k) reader (optBytes write o ++ rest) = some (o, rest) := by
    intro α reader write o k bit_ back rest
    rw [bit_]
    exact readIf_optBytes back rest
  rw [cueBytes_eq]
  unfold parseCue
  refine bind_read (u16_be16 number _) ?_
  refine bind_read (u8_byteOf (cueKindCode_lt c.kind) _) ?_
  refine bind_read (cueKindOf_code c.kind) ?_
  refine bind_read (u8_byteOf (by omega) _) ?_
  refine bind_read (u8_byteOf (by omega) _) ?_
  refine (if_neg defined).trans ?_
  refine bind_read (read 0 p0 (fun p hp => readsBack_bbg (anchor p hp).1 (anchor p hp).2.1 (anchor p hp).2.2) _) ?_
  refine bind_read (read 1 p1 (fun n hn => readsBack_u8 (slot n hn)) _) ?_
  refine bind_read (read 2 p2 (fun n hn => readsBack_u16 (delay n hn)) _) ?_
  refine bind_read (read 3 p3 (fun n hn => readsBack_u16 (lead n hn)) _) ?_
  refine bind_read (read 4 p4 (fun n hn => readsBack_u16 (dwell n hn)) _) ?_
  refine bind_read (u8_byteOf count _) ?_
  refine bind_read (readMany_flatMap_end fun r hr => readsBack_pageRef (pages r hr).1 (pages r hr).2) ?_
  simp only [List.isEmpty_nil, if_true, f0, f1]

theorem glyph_of_halves (g : Glyph) : g.extractLsb' 8 8 ++ g.extractLsb' 0 8 = g := by
  apply BitVec.eq_of_toNat_eq
  rw [BitVec.toNat_append]
  simp only [BitVec.extractLsb'_toNat]
  rw [← Nat.shiftLeft_add_eq_or_of_lt (Nat.mod_lt _ (by decide)), Nat.shiftLeft_eq, Nat.shiftRight_eq_div_pow,
    Nat.shiftRight_eq_div_pow]
  have := g.isLt
  omega

theorem readsBack_glyph (g : Glyph) : ReadsBack readGlyph glyphBytes g := fun rest =>
  congrArg (fun g => some (g, rest)) (glyph_of_halves g)

theorem readsBack_line {l : List Glyph} (h : l.length < 256) :
    ReadsBack readLine (fun l => byteOf l.length :: l.flatMap glyphBytes) l := fun rest =>
  bind_read (u8_byteOf h _) (readMany_flatMap (fun g _ => readsBack_glyph g) rest)

theorem Page.wf_iff {p : Page} :
    p.wf = true ↔ p.id < 65536 ∧ p.lane < 256 ∧ p.lines.length < 256 ∧ ∀ l ∈ p.lines, l.length < 256 := by
  unfold Page.wf fits8 fits16
  simp only [Bool.and_eq_true, decide_eq_true_eq, List.all_eq_true, and_assoc]

theorem pageBytes_eq (p : Page) :
    pageBytes p = be16 p.id ++ (byteOf p.lane :: byteOf p.lines.length
      :: p.lines.flatMap (fun l => byteOf l.length :: l.flatMap glyphBytes)) := by
  simp [pageBytes]

theorem parsePage_pageBytes {p : Page} (h : p.wf = true) : parsePage (pageBytes p) = some p := by
  obtain ⟨id, lane, count, lines⟩ := Page.wf_iff.mp h
  rw [pageBytes_eq]
  unfold parsePage
  refine bind_read (u16_be16 id _) ?_
  refine bind_read (u8_byteOf lane _) ?_
  refine bind_read (u8_byteOf count _) ?_
  exact bind_read (readMany_flatMap_end fun l hl => readsBack_line (lines l hl)) rfl

/-! ### Bus frames -/

theorem readEnvelope_busEnvelope {type address : Nat} {body : List Byte} (ht : type < 256) (ha : address < 256)
    (hb : body.length < 65536) : readEnvelope (busEnvelope type address body) = some (type, address, body) := by
  have length : (byteOf (body.length / 256)).toNat * 256 + (byteOf body.length).toNat = body.length := by
    rw [byteOf_toNat, byteOf_toNat]
    omega
  obtain ⟨hi, lo, check⟩ := checkBytes_eq_pair (crc ([byteOf type, byteOf address] ++ be16 body.length ++ body))
  have envelope : busEnvelope type address body = 0x7E :: byteOf type :: byteOf address
      :: byteOf (body.length / 256) :: byteOf body.length :: (body ++ [hi, lo]) := by
    rw [busEnvelope, check]
    simp [be16]
  have covered : byteOf type :: byteOf address :: byteOf (body.length / 256) :: byteOf body.length :: body
      = [byteOf type, byteOf address] ++ be16 body.length ++ body := rfl
  rw [envelope, readEnvelope]
  simp only [length, List.take_left, List.drop_left, covered, check]
  rw [if_pos ⟨trivial, by simp, trivial⟩, byteOf_toNat, byteOf_toNat, Nat.mod_eq_of_lt ht, Nat.mod_eq_of_lt ha]

theorem markInstrOf_code (k : MarkInstr) : markInstrOf (markInstrCode k) = some k := by cases k <;> rfl

theorem markInstrCode_lt (k : MarkInstr) : markInstrCode k < 256 := by cases k <;> decide

theorem kindOf_code (k : SourceKind) : kindOf (kindCode k) = some k := by cases k <;> rfl

theorem kindCode_lt (k : SourceKind) : kindCode k < 256 := by cases k <;> decide

theorem trackerOf_code (m : TrackerMode) : trackerOf (trackerCode m) = some m := by cases m <;> rfl

theorem nonZero_getD {o : Option Nat} (h : ∀ n ∈ o, 1 ≤ n ∧ n < 65536) : nonZero (o.getD 0) = o := by
  cases o with
  | none => rfl
  | some n =>
    have := (h n rfl).1
    exact if_neg (show ¬ n = 0 by omega)

theorem getD_zero_lt {o : Option Nat} {most : Nat} (least : 0 < most) (h : ∀ n ∈ o, n < most) : o.getD 0 < most := by
  cases o with
  | none => exact least
  | some n => exact h n rfl

theorem readsBack_asShown {e : AsShown} (live : e.liveTag < 256) (counter : e.tagCounter < 256)
    (cue : ∀ n ∈ e.cue, 1 ≤ n ∧ n < 65536) (page : ∀ n ∈ e.page, 1 ≤ n ∧ n < 65536) :
    ReadsBack readAsShown asShownBytes e := by
  intro rest
  have small := bit_le e.partialMark
  have layout : asShownBytes e ++ rest = byteOf (markInstrCode e.instr) :: byteOf e.liveTag :: byteOf e.tagCounter
      :: byteOf (kindCode e.kind) :: (be16 (e.cue.getD 0) ++ (be16 (e.page.getD 0)
        ++ (byteOf (bit e.partialMark) :: rest))) := by
    simp [asShownBytes]
  rw [layout]
  unfold readAsShown
  refine bind_read (u8_byteOf (markInstrCode_lt e.instr) _) ?_
  refine bind_read (markInstrOf_code e.instr) ?_
  refine bind_read (u8_byteOf live _) ?_
  refine bind_read (u8_byteOf counter _) ?_
  refine bind_read (u8_byteOf (kindCode_lt e.kind) _) ?_
  refine bind_read (kindOf_code e.kind) ?_
  refine bind_read (u16_be16 (getD_zero_lt (by decide) fun n hn => (cue n hn).2) _) ?_
  refine bind_read (u16_be16 (getD_zero_lt (by decide) fun n hn => (page n hn).2) _) ?_
  refine bind_read (u8_byteOf (by omega) _) ?_
  refine (if_neg (by omega)).trans ?_
  rw [nonZero_getD cue, nonZero_getD page, bit_testBit_zero]

theorem readsBack_mapByte (o : Option (Fin 4)) : ReadsBack readMapByte (fun o => [mapByte o]) o := by
  intro rest
  match o with
  | none => rfl
  | some 0 | some 1 | some 2 | some 3 => rfl

theorem sweepBody_eq (f : SweepFrame) :
    sweepBody f = be16 f.number.toNat ++ (byteOf (bit f.quiet + 2 * bit f.wake + 4 * bit f.takeover)
      :: byteOf (trackerCode f.tracker) :: (be32 (f.grains.getD 0) ++ (be16 f.tempo
        ++ (f.tileMap.flatMap (fun o => [mapByte o]) ++ (asShownBytes f.screens.s0 ++ (asShownBytes f.screens.s1
          ++ (asShownBytes f.screens.s2 ++ (asShownBytes f.screens.s3 ++ [])))))))) := by
  simp [sweepBody, List.map_eq_flatMap]

theorem sweepBody_length {f : SweepFrame} (tiles : f.tileMap.length = 16) : (sweepBody f).length = 62 := by
  simp [sweepBody, asShownBytes, be16, be32, tiles]

theorem parseSweep_bytes {f : SweepFrame} (grains : f.tracker = .stopped ↔ f.grains = none)
    (fits : ∀ g ∈ f.grains, g < 2 ^ 32) (tempo : f.tempo < 65536) (tiles : f.tileMap.length = 16)
    (screens : ∀ i : Fin 4, ReadsBack readAsShown asShownBytes (f.screens.get i)) :
    parseSweep (BusFrame.sweep f).bytes = some f := by
  obtain ⟨few, f0, f1, f2⟩ := flags_three f.quiet f.wake f.takeover
  have envelope : readEnvelope (BusFrame.sweep f).bytes = some (0x01, 0, sweepBody f) :=
    readEnvelope_busEnvelope (by decide) (by decide) (by rw [sweepBody_length tiles]; decide)
  have held : (if f.tracker = .stopped then none else some (f.grains.getD 0)) = f.grains := by
    cases g : f.grains with
    | none => exact if_pos (grains.mpr g)
    | some n => exact if_neg fun h => by simp [grains.mp h] at g
  rw [parseSweep, envelope]
  change readSweepBody (sweepBody f) = some f
  rw [sweepBody_eq]
  unfold readSweepBody
  refine bind_read (u16_be16 f.number.isLt _) ?_
  refine bind_read (u8_byteOf (by omega) _) ?_
  refine (if_neg (by omega)).trans ?_
  refine bind_read (u8_byteOf (Nat.lt_of_le_of_lt (trackerCode_le f.tracker) (by decide)) _) ?_
  refine bind_read (trackerOf_code f.tracker) ?_
  refine bind_read (u32_be32 (getD_zero_lt (by decide) fits) _) ?_
  refine bind_read (u16_be16 tempo _) ?_
  refine bind_read (tiles ▸ readMany_flatMap (fun o _ => readsBack_mapByte o) _) ?_
  refine bind_read (screens 0 _) ?_
  refine bind_read (screens 1 _) ?_
  refine bind_read (screens 2 _) ?_
  refine bind_read (screens 3 _) ?_
  simp only [List.isEmpty_nil, if_true, f0, f1, f2, held, BitVec.ofNat_toNat, BitVec.setWidth_eq]
  rfl

/-- Settles O57. -/
theorem formatsReadBackAsWritten : Obligations.FormatsReadBackAsWritten := by
  unfold Obligations.FormatsReadBackAsWritten
  refine ⟨fun c => parseCue_cueBytes, fun p => parsePage_pageBytes, fun f grains fits tempo tiles entries => ?_,
    fun tile tag ht => ?_, fun tile liveTag pendingTag capacity status ht => ?_⟩
  · refine parseSweep_bytes grains fits tempo tiles fun i => ?_
    obtain ⟨live, counter, cue, page⟩ := entries i
    exact readsBack_asShown live counter cue page
  · rw [parseAck, readEnvelope_busEnvelope (by decide) ht (by simp)] <;> rfl
  · rw [parsePollReply, readEnvelope_busEnvelope (by decide) ht (by simp)] <;> rfl

end Sys2Proof.Machine
end

section
/-!
Resets and restart (10, section 10.9): the full resets, and what every period's end does.
-/

namespace Sys2Proof.Machine

set_option Elab.async false

/-! ### The end of a period (R176, R179) -/

/-- What the end of a full reset's period leaves. -/
def State.fullEnded (s : State) (cause : ResetCause) (fast line : Bool) : State :=
  ({ s with
    bus := { s.bus with timer := some { start := s.showClock, length := 20000 } }
    own := { s.own with state := if s.own.grant then .granted else .shadow, request := s.params.busRequest }
    resetUnit := { line := line, period := none, cause := cause, showSafe := false }
    port := { s.port with rate := if fast then 460800 else 115200 } } : State).post
  (.hello cause false 3 (if fast then 460800 else 115200) s.bus.sweepNumber)

theorem ResetPeriod.over_iff {p : ResetPeriod} : p.over = true ↔ p.power = false ∧ p.line = false ∧ p.restart = none := by
  simp [ResetPeriod.over, and_assoc]

theorem State.endPeriod_full (s : State) {p : ResetPeriod} (full : p.showSafe = false) (fast : Bool) :
    s.endPeriod p fast = s.fullEnded p.cause fast s.resetUnit.line := by
  obtain ⟨showSafe, cause, power, line, restart⟩ := p
  obtain rfl : showSafe = false := full
  rfl

theorem State.settlePeriod_full (s : State) {p : ResetPeriod} (full : p.showSafe = false) (fast : Bool) {ends : Prop}
    [Decidable ends] (h : ends ↔ p.power = false ∧ p.line = false ∧ p.restart = none) :
    s.settlePeriod p fast
      = if ends then s.fullEnded p.cause fast s.resetUnit.line
        else { s with resetUnit := { s.resetUnit with period := some p } } := by
  unfold State.settlePeriod
  rw [State.endPeriod_full s full]
  exact if_congr (ResetPeriod.over_iff.trans h.symm) rfl rfl

theorem State.resetFalls_eq {s : State} {p : ResetPeriod} (period : s.resetUnit.period = some p) (fast : Bool) :
    s.resetEvent .resetFalls fast =
      ({ s with resetUnit := { s.resetUnit with line := false } } : State).settlePeriod { p with line := false } fast := by
  simp only [State.resetEvent, period]

theorem State.supplyReady_eq {s : State} {p : ResetPeriod} (period : s.resetUnit.period = some p) (fast : Bool) :
    s.resetEvent .supplyReady fast = s.settlePeriod { p with power := false } fast := by
  simp only [State.resetEvent, period]

theorem State.restartExpires_eq {s : State} {p : ResetPeriod} (period : s.resetUnit.period = some p) {start : ShowTime}
    (restart : p.restart = some start) (fast : Bool) :
    s.restartExpires fast = if (s.showClock - (start + 50000)).toNat < 2 ^ 31 then
      s.settlePeriod { p with restart := none } fast else s := by
  simp only [State.restartExpires, period, restart]
  exact if_congr reached_iff rfl rfl

theorem State.resetRises_high {s : State} (high : s.resetUnit.line = true) (keep : Bool) : s.resetRises keep = s :=
  if_pos high

/-- RESET asserts on a line that is low. -/
theorem State.resetRises_low {s : State} (low : s.resetUnit.line = false) (keep : Bool) {unit : ResetUnit}
    (hu : unit = { s.resetUnit with line := true }) :
    s.resetRises keep =
      match s.resetUnit.period, keep with
      | none, true => ({ s with resetUnit := unit } : State).beginShowSafe
          { showSafe := true, cause := .lineKeep, power := false, line := true, restart := none }
      | none, false => ({ s with resetUnit := unit } : State).beginFull
          { showSafe := false, cause := .lineFull, power := false, line := true, restart := none }
      | some p, true => ({ s with resetUnit := unit } : State).setPeriod (some { p with line := true })
      | some p, false => ({ s with resetUnit := unit } : State).fullDuring p := by
  subst hu
  unfold State.resetRises
  rw [if_neg (by simp [low])] <;> rfl

/-- Settles O46. -/
theorem fullResets : Obligations.FullResets := by
  unfold Obligations.FullResets
  refine ⟨fun s => ?_, fun s low grant peer => ⟨_, rfl, ?_⟩⟩
  · intro cleared
    refine ⟨rfl, fun low period => ?_, fun p low period safe => ?_, fun keep high => congrArg _ (State.resetRises_high high keep),
      fun p fast period full => ?_⟩
    · refine congrArg _ ((State.resetRises_low low false rfl).trans ?_)
      rw [period]
      rfl
    · refine congrArg _ ((State.resetRises_low low false rfl).trans ?_)
      rw [period]
      exact if_pos safe
    · intro ended
      refine ⟨congrArg _ ((State.resetFalls_eq period fast).trans ?_),
        congrArg _ ((State.supplyReady_eq period fast).trans ?_), fun start restart due => ?_⟩
      · exact State.settlePeriod_full _ (p := { p with line := false }) full fast (by simp)
      · exact State.settlePeriod_full _ (p := { p with power := false }) full fast (by simp)
      · refine congrArg _ ((State.restartExpires_eq period restart fast).trans ((if_pos due).trans ?_))
        exact State.settlePeriod_full _ (p := { p with restart := none }) full fast (by simp)
  · refine congrArg _ ((State.supplyReady_eq rfl false).trans ?_)
    refine (State.settlePeriod_full _ rfl false (ends := s.resetUnit.line = false) (by simp)).trans ((if_pos low).trans ?_)
    simp only [State.fullEnded, State.powerUp, State.beginFull, State.setPeriod, State.fullStart, Ownership.resetStart,
      State.spendFree, low, grant, peer]
    rfl

end Sys2Proof.Machine
end

section
/-!
Show-safe resets (10, section 10.9): what their start abandons and what their end restores.
-/

namespace Sys2Proof.Machine

set_option Elab.async false

/-! ### The start, block by block -/

theorem State.showSafeTracker_eq (s : State) :
    s.tracker.showSafe (endGrain s.meter) s.showClock = match s.positionAt s.showClock with
      | none => { s.tracker with pulseCounter := 0, lossOpen := false }
      | some g => { s.tracker with
          confirmed := match endGrain s.meter with
            | some last => min ((g + 192 / s.tracker.ppb - 1) / (192 / s.tracker.ppb) * (192 / s.tracker.ppb)) last
            | none => (g + 192 / s.tracker.ppb - 1) / (192 / s.tracker.ppb) * (192 / s.tracker.ppb)
          mode := .free, pulseCounter := 0, lossOpen := false } := by
  unfold Tracker.showSafe State.positionAt
  cases s.tracker.positionAt (endGrain s.meter) s.showClock with
  | none => rfl
  | some g => cases endGrain s.meter <;> rfl

/-- The cue of the firing that a change in flight carries. -/
theorem State.abandonedCue_eq (s : State) :
    s.abandonedCue = (s.change.bind (fun c => c.firing)).map (fun f => f.cue) := by
  unfold State.abandonedCue
  cases s.change <;> rfl

/-- Where a run held by a show-safe reset goes on without an abandoned cue: after the live cue, else at the first. -/
def State.resumeOtherwise (s : State) : NextPtr :=
  match s.sched.live.cue with
  | some n => s.following n
  | none => match s.cues.head? with
    | some c => .cue c.record.number
    | none => .endOfList

theorem State.resumePointer_eq (s : State) :
    s.resumePointer = match (s.change.bind (fun c => c.firing)).map (fun f => f.cue) with
      | some n => if (s.cue? n).isSome then .cue n else s.resumeOtherwise
      | none => s.resumeOtherwise := by
  unfold State.resumePointer State.resumeOtherwise
  rw [State.abandonedCue_eq]
  cases (s.change.bind (fun c => c.firing)).map (fun f => f.cue) <;> cases s.sched.live.cue <;> cases s.cues <;> rfl

theorem State.showSafeSched_eq (s : State) :
    s.showSafeSched = { s.sched with
      pendingGo := none, noRise := false, follow := none
      mode := if s.sched.mode = .idle then .idle else .held
      next := if s.sched.mode = .idle then s.sched.next else s.resumePointer } := by
  unfold State.showSafeSched
  cases mode : s.sched.mode <;> simp [mode]

/-- A content frame is on the bus, or its reply window is open. -/
def PanelBus.transfers (b : PanelBus) : Bool :=
  match b.window with
  | some w => decide (w.frame = SlotFrame.first ∨ w.frame = SlotFrame.retry)
  | none => false

theorem PanelBus.showSafe_eq (b : PanelBus) :
    b.dropTransfer.showSafe = { b with
      window := none, quietCount := 0, schedulerDue := [], ownershipDue := []
      interval := b.interval.map (fun iv => { iv with
        carries := false, busy := if b.transfers then min iv.busy iv.next else iv.busy }) } := by
  unfold PanelBus.dropTransfer PanelBus.transfers
  cases b.window with
  | none => rfl
  | some w =>
    obtain ⟨frame, rest⟩ := w
    cases frame
    case first | retry =>
      simp only [PanelBus.showSafe, Option.map_map]
      rfl
    all_goals rfl

/-- A reset aborts a line test without a notice (R156, R157). -/
theorem State.abortTest_atReset (s : State) :
    s.abortTest .reset = { s with lineTest := (s.abortTest .reset).lineTest } := by
  unfold State.abortTest
  cases s.lineTest.started <;> rfl

/-- The line test unit after a reset: a test that ran is aborted. -/
def State.testAtReset (s : State) : LineTest :=
  { started := none, pulses := 0, reflections := []
    last := if s.lineTest.started = none then s.lineTest.last else some
      { outcome := .aborted .reset, reflected := s.lineTest.reflections.length
        velocityFactor := s.params.velocityFactor, sweep := s.bus.sweepNumber } }

theorem State.abortTest_atReset_lineTest (s : State) : (s.abortTest .reset).lineTest.reset = s.testAtReset := by
  unfold State.abortTest State.testAtReset
  cases running : s.lineTest.started <;> simp [LineTest.reset, State.testResult]

/-- What the start of a show-safe reset leaves, no commit report being on its way. -/
def State.safelyBegun (s : State) : State :=
  { s with
    tracker := s.tracker.showSafe (endGrain s.meter) s.showClock
    sched := s.showSafeSched
    screens := s.screens.mapIdx (fun _ c =>
      { c with pendingShown := none, edit := none, restore := false, reissue := false, initialBlank := false })
    groupHold := false, change := none
    bus := s.bus.dropTransfer.showSafe
    own := { s.own with heldChange := false }
    listener := s.listener.showSafe
    lineTest := s.testAtReset
    survey := { s.survey with running := false }
    port := s.port.resetStart }

theorem State.takeReports_nil {s : State} (none : s.reports = []) : s.takeReports = s := by
  have same : ∀ rs, rs = ([] : List CommitReport) → s.reports = rs → { s with reports := [] } = s := by
    rintro rs rfl h
    rw [← h]
  unfold State.takeReports
  rw [none]
  exact same _ rfl none

theorem State.showSafeStart_eq {s : State} (none : s.reports = []) : s.showSafeStart = s.safelyBegun := by
  unfold State.showSafeStart
  rw [State.takeReports_nil none]
  simp only
  rw [State.abortTest_atReset]
  unfold State.safelyBegun
  rw [← State.abortTest_atReset_lineTest]
  rfl

theorem State.beginShowSafe_eq {s : State} (none : s.reports = []) (p : ResetPeriod) :
    s.beginShowSafe p = { s.safelyBegun with resetUnit := { s.resetUnit with period := some p } } := by
  unfold State.beginShowSafe
  rw [State.showSafeStart_eq none]
  rfl

/-! ### The end -/

/-- What the end of a show-safe reset's period leaves. -/
def State.safelyEnded (s : State) (cause : ResetCause) (fast line : Bool) : State :=
  (({ s with
    sched := { s.sched with
      follow := if s.sched.mode = SchedMode.held then s.followFor s.sched.next else s.sched.follow }
    own := { s.own with contention := 0, bothDriving := false }
    mirror := { s.mirror with silence := 0, silent := false, divergence := 0, divergenceOpen := false }
    bus := { s.bus with quietCount := 0 }
    screens := s.screens.mapIdx (fun _ c => { c with restore := true })
    resetUnit := { line := line, period := none, cause := cause, showSafe := true }
    port := { s.port with rate := if fast then 460800 else 115200 } } : State).post
  (.hello cause true 3 (if fast then 460800 else 115200) s.bus.sweepNumber)).composeWork

theorem State.endPeriod_safe (s : State) {p : ResetPeriod} (safe : p.showSafe = true) (fast : Bool) :
    s.endPeriod p fast = s.safelyEnded p.cause fast s.resetUnit.line := by
  obtain ⟨showSafe, cause, power, line, restart⟩ := p
  obtain rfl : showSafe = true := safe
  let h : Notice := .hello cause true 3 (if fast then 460800 else 115200) s.bus.sweepNumber
  let quiet : State := { s with
    resetUnit := { s.resetUnit with period := none, cause := cause, showSafe := true }
    port := { s.port with rate := if fast then 460800 else 115200 } }
  have posted : s.periodOver { showSafe := true, cause := cause, power := power, line := line, restart := restart } fast
      = { quiet with port := (quiet.post h).port } := quiet.post_frame h
  change (s.periodOver _ fast).showSafeEnd = _
  rw [posted]
  refine congrArg State.composeWork ?_
  rw [State.post_frame, State.post_port_congr (t := quiet) rfl rfl]
  rfl

theorem State.settlePeriod_safe {s : State} {p : ResetPeriod} (safe : p.showSafe = true) (power : p.power = false)
    (line : p.line = false) (restart : p.restart = none) (fast : Bool) :
    s.settlePeriod p fast = s.safelyEnded p.cause fast s.resetUnit.line := by
  unfold State.settlePeriod
  rw [if_pos (ResetPeriod.over_iff.mpr ⟨power, line, restart⟩), State.endPeriod_safe s safe]

/-- Settles O47. -/
theorem showSafeResets : Obligations.ShowSafeResets := by
  unfold Obligations.ShowSafeResets
  intro s step tracker abandoned first otherwise resume transfer clear begun
  have begun_eq : s.safelyBegun = begun := by
    unfold State.safelyBegun
    rw [State.showSafeTracker_eq, State.showSafeSched_eq, State.resumePointer_eq, PanelBus.showSafe_eq]
    rfl
  refine ⟨fun low period none => ?_, fun r w sending taken answers kind ok none => ?_, fun p low period => ?_,
    fun p fast period safe => ?_⟩
  · refine congrArg _ ((State.resetRises_low low true rfl).trans ?_)
    rw [period]
    refine (State.beginShowSafe_eq (s := { s with resetUnit := { s.resetUnit with line := true } }) none _).trans ?_
    rw [← begun_eq]
    rfl
  · have restart : s.port.sentRestart = true := by
      simp only [ControlPort.sentRestart, sending, taken, answers, kind, ok]
      rfl
    have rate : s.port.sent.resetStart = s.port.resetStart := by
      simp only [ControlPort.sent, sending]
      rfl
    refine congrArg _ ((if_pos restart).trans ((State.beginShowSafe_eq (s := s.setPort s.port.sent) none _).trans ?_))
    rw [← begun_eq]
    unfold State.safelyBegun
    rw [← rate]
    rfl
  · refine congrArg _ ((State.resetRises_low low true rfl).trans ?_)
    rw [period]
    rfl
  · intro ended
    refine ⟨fun power restart => congrArg _ ((State.resetFalls_eq period fast).trans ?_), fun start restart =>
      ⟨fun due power line => ?_, fun early => ?_⟩⟩
    · exact State.settlePeriod_safe (p := { p with line := false }) safe power rfl restart fast
    · refine congrArg _ ((State.restartExpires_eq period restart fast).trans ((if_pos due).trans ?_))
      exact State.settlePeriod_safe (p := { p with restart := none }) safe power line rfl fast
    · exact congrArg _ ((State.restartExpires_eq period restart fast).trans (if_neg (by omega)))

end Sys2Proof.Machine
end

section
/-!
Bus ownership (07): the lines GRANT and PEER_DRIVE.
-/

namespace Sys2Proof.Machine

set_option Elab.async false

/-! ### Periods and aborted tests -/

theorem State.inFullReset_iff {s : State} : s.inFullReset = true ↔ ∃ p ∈ s.resetUnit.period, p.showSafe = false := by
  unfold State.inFullReset
  cases s.resetUnit.period <;> simp

theorem State.not_inFullReset {s : State} (h : ∀ p ∈ s.resetUnit.period, p.showSafe = true) : s.inFullReset = false := by
  rw [Bool.eq_false_iff, Ne, State.inFullReset_iff]
  rintro ⟨p, hp, full⟩
  rw [h p hp] at full
  cases full

/-- R156: a line test aborted, and its notice posted, whatever has been posted before. -/
theorem State.abortTest_eq {u s : State} (test : u.lineTest = s.lineTest) (params : u.params = s.params)
    (sweep : u.bus.sweepNumber = s.bus.sweepNumber) {cause : TestAbort} (told : cause ≠ .reset) :
    u.abortTest cause =
      let r : TestResult :=
        { outcome := .aborted cause, reflected := s.lineTest.reflections.length
          velocityFactor := s.params.velocityFactor, sweep := s.bus.sweepNumber }
      if s.lineTest.started = none then u
      else ({ u with lineTest := { s.lineTest with started := none, reflections := [], last := some r } }).post
        (.lineTestDone r) := by
  unfold State.abortTest State.testResult
  rw [test, params, sweep]
  cases s.lineTest.started with
  | none => rfl
  | some start => cases cause <;> first | rfl | exact absurd rfl told

/-! ### GRANT (R123, R124) -/

theorem State.grantRises_plain {s : State} (h : s.own.grant = true ∨ s.inFullReset = true ∨ s.own.state = .granted
    ∨ s.own.state = .driving) : s.grantRises = { s with own := { s.own with grant := true } } := by
  unfold State.grantRises
  rcases h with h | h | h | h
  · exact if_pos (by simp [h])
  · exact if_pos (by simp [h])
  all_goals
    simp only [h]
    exact ite_self _

theorem State.grantFalls_plain {s : State} (h : s.own.grant = false ∨ s.inFullReset = true ∨ s.own.state = .shadow
    ∨ s.own.state = .releasing) : s.grantFalls = { s with own := { s.own with grant := false } } := by
  unfold State.grantFalls
  rcases h with h | h | h | h
  · exact if_pos (by simp [h])
  · exact if_pos (by simp [h])
  all_goals
    simp only [h]
    exact ite_self _

/-- Settles O51. -/
theorem grantAndPeerDriveLines : Obligations.GrantAndPeerDriveLines := by
  unfold Obligations.GrantAndPeerDriveLines
  constructor
  · intro s full
    have inFull := State.inFullReset_iff.mpr full
    exact ⟨congrArg _ (State.grantRises_plain (.inr (.inl inFull))), congrArg _ (State.grantFalls_plain (.inr (.inl inFull))),
      congrArg _ (if_pos (by simp [inFull])), rfl⟩
  · intro s safe sweep up down aborted
    have outside := State.not_inFullReset safe
    refine ⟨fun plain => ?_, fun low shadow => ?_, fun low releasing => ?_, fun plain => ?_, fun high granted => ?_,
      fun high driving => ?_, fun high => ?_, fun low => ?_, rfl⟩
    · exact congrArg _ (State.grantRises_plain (plain.imp_right .inr))
    · refine congrArg Host.Outcome.next (a₁ := s.grantRises) ?_
      unfold State.grantRises
      rw [if_neg (by simp [low, outside])]
      simp only [shadow]
      rfl
    · refine congrArg Host.Outcome.next (a₁ := s.grantRises) ?_
      unfold State.grantRises
      rw [if_neg (by simp [low, outside])]
      simp only [up, releasing]
      rfl
    · exact congrArg _ (State.grantFalls_plain (plain.imp_right .inr))
    · refine congrArg Host.Outcome.next (a₁ := s.grantFalls) ?_
      unfold State.grantFalls
      rw [if_neg (by simp [high, outside])]
      simp only [granted]
      exact State.abortTest_eq (by simp) (by simp) (by simp) (by decide)
    · intro released
      have falls : s.grantFalls = released.abortSurvey .driveLost := by
        unfold State.grantFalls
        rw [if_neg (by simp [high, outside])]
        simp only [driving]
        rfl
      have survey : released.survey = s.survey := by simp [released]
      refine ⟨fun idle => congrArg _ (falls.trans (State.abortSurvey_idle (by rw [survey]; exact idle) _)), fun runs => ?_⟩
      refine congrArg _ (falls.trans ((State.abortSurvey_running (by rw [survey]; exact runs) _).trans ?_))
      have report : released.surveyReport (some .driveLost) = s.surveyReport (some .driveLost) :=
        State.surveyReport_post ..
      have bus : released.bus = s.bus := by simp [released]
      rw [report, survey, bus]
    · have same : ∀ own : Ownership, s.own = own → { s with own := own } = s := by
        rintro own rfl
        rfl
      refine congrArg _ ((if_pos (by simp [high])).trans (same _ ?_))
      rw [← high]
    · intro risen
      have tested : ({ s with own := { s.own with peerDrive := true } } : State).abortTest .peerDrive = risen :=
        State.abortTest_eq rfl rfl rfl (by decide)
      refine congrArg Host.Outcome.next (a₁ := s.peerDriveRises) ?_
      unfold State.peerDriveRises
      rw [if_neg (by simp [low, outside])]
      simp only [tested]
      refine if_congr ?_ rfl rfl
      rw [Bool.and_eq_true, State.drives_iff, Bool.not_eq_true']

end Sys2Proof.Machine
end

section
/-!
Shadow operation (07): peer frames, the mirror and the peer's position.
-/

namespace Sys2Proof.Machine

set_option Elab.async false

/-! ### The sweep timer (R125) -/

theorem State.lockTimer_eq (s : State) (f : SweepFrame) :
    let b : Boundary :=
      { number := f.number, time := s.showClock, periodMs := s.params.sweepPeriod, byPeer := true }
    s.lockTimer f = { s with
      bus := if f.number = s.bus.sweepNumber then
          { s.bus with timer := some { start := s.showClock, length :=
              match s.bus.timer with | some t => t.length | none => s.params.sweepPeriod * 1000 } }
        else { s.bus with
          timer := some { start := s.showClock, length := s.params.sweepPeriod * 1000 }, sweepNumber := f.number
          controllerDue := s.bus.controllerDue ++ [b]
          schedulerDue := if s.resetUnit.period = none then s.bus.schedulerDue ++ [b] else s.bus.schedulerDue
          ownershipDue := if s.resetUnit.period = none then s.bus.ownershipDue ++ [b] else s.bus.ownershipDue } } := by
  intro b
  unfold State.lockTimer
  by_cases same : f.number = s.bus.sweepNumber
  · rw [if_pos same, if_pos same] <;> rfl
  · rw [if_neg same, if_neg same]
    unfold State.boundary State.inReset
    cases s.resetUnit.period <;> rfl

/-- After a peer frame the timer's number is the frame's. -/
theorem State.lockTimer_sweepNumber (s : State) (f : SweepFrame) : (s.lockTimer f).bus.sweepNumber = f.number := by
  rw [State.lockTimer_eq]
  by_cases same : f.number = s.bus.sweepNumber
  · rw [if_pos same]
    exact same.symm
  · rw [if_neg same]

/-! ### The peer's position (R19, R130) -/

theorem TrackerMode.adoptable_iff {m : TrackerMode} : m.adoptable = true ↔ m = .stopped ∨ m = .free ∨ m = .lost := by
  cases m <;> simp [TrackerMode.adoptable]

theorem Tracker.adopt_eq (tr : Tracker) (last : Option Nat) (g bpm10 : Nat) :
    tr.adopt last g bpm10 = { tr with
      mode := .free, ppb := tr.pendingPpb.getD tr.ppb, pendingPpb := none, pulseCounter := 0, lossOpen := false
      confirmed := (match last with | some m => min g m | none => g) / (192 / tr.pendingPpb.getD tr.ppb)
        * (192 / tr.pendingPpb.getD tr.ppb)
      period := (2 * 600000000 + max 200 (min bpm10 3000)) / (2 * max 200 (min bpm10 3000)) } := by
  unfold Tracker.adopt Tracker.takePpb
  cases pending : tr.pendingPpb with
  | none =>
    simp only [pending]
    cases last <;> rfl
  | some q => cases last <;> rfl

/-- When the position of a FOLLOWING peer is adopted. -/
abbrev Adopts (s : State) (f : SweepFrame) : Prop :=
  s.params.shadowFollow = true ∧ f.tracker = .following ∧ s.meter ≠ []
    ∧ (s.tracker.mode = .stopped ∨ s.tracker.mode = .free ∨ s.tracker.mode = .lost)

theorem State.followPosition_kept {s : State} {f : SweepFrame} (h : s.own.state ≠ .shadow ∨ s.resetUnit.period ≠ none) :
    s.followPosition f = s :=
  if_pos (h.imp_right State.inReset_eq_true)

theorem State.followPosition_cleared {s : State} {f : SweepFrame} (shadow : s.own.state = .shadow)
    (quiet : s.resetUnit.period = none) (h : ¬ Adopts s f ∨ f.grains = none) :
    s.followPosition f = { s with own := { s.own with posFollow := false } } := by
  unfold State.followPosition
  rw [if_neg (by simp [shadow, State.inReset, quiet])]
  cases grains : f.grains with
  | none => rfl
  | some g =>
    have no := h.resolve_right (by simp [grains])
    simp only
    split
    case isTrue may =>
      simp only [Bool.and_eq_true, decide_eq_true_eq, TrackerMode.adoptable_iff] at may
      obtain ⟨⟨follows, following⟩, mode⟩ := may
      have map : s.meter = [] := by
        by_contra map
        exact no ⟨follows, following, map, mode⟩
      exact if_pos map
    case isFalse => rfl

theorem State.followPosition_adopted {s : State} {f : SweepFrame} (shadow : s.own.state = .shadow)
    (quiet : s.resetUnit.period = none) (h : Adopts s f) {g : Nat} (grains : f.grains = some g) {tr : Tracker}
    (adopted : s.tracker.adopt (endGrain s.meter) g f.tempo = tr) :
    s.followPosition f =
      if s.own.posFollow then { s with own := { s.own with posFollow := true }, tracker := tr }
      else ({ s with own := { s.own with posFollow := true }, tracker := tr } : State).post
        (.positionAdopted s.bus.sweepNumber (fullPos s.meter (some tr.confirmed)) tr.tempo) := by
  subst adopted
  obtain ⟨follows, following, map, mode⟩ := h
  have may : (s.params.shadowFollow && decide (f.tracker = .following) && s.tracker.mode.adoptable) = true := by
    simp [follows, following, TrackerMode.adoptable_iff.mpr mode]
  have kept : ∀ own : Ownership, s.own = own → ∀ tr, { s with tracker := tr } = { s with own := own, tracker := tr } := by
    rintro own rfl tr
    rfl
  unfold State.followPosition
  rw [if_neg (by simp [shadow, State.inReset, quiet]), grains]
  simp only [may, if_true]
  unfold State.adoptPosition
  rw [if_neg map]
  by_cases run : s.own.posFollow = true
  · rw [if_pos run, if_pos run]
    exact kept _ (by rw [← run]) _
  · rw [if_neg run, if_neg run]

/-- Settles O50. -/
theorem peerFramesFillTheMirror : Obligations.PeerFramesFillTheMirror := by
  unfold Obligations.PeerFramesFillTheMirror
  intro s frame
  have closed : (s.listens && !s.inFullReset && s.lineTest.started.isNone) = false →
      exec (.peerFrame frame) s = .next s := fun h => if_neg (by simp [h])
  refine ⟨fun drives => closed ?_, fun p hp full => closed ?_, fun f listens safe idle parsed => ?_⟩
  · have drives' := State.drives_iff.mpr drives
    simp [State.listens, drives']
  · simp [State.inFullReset_iff.mpr ⟨p, hp, full⟩]
  · intro b length heard adopts
    have notDriving : s.drives = false := by
      rw [Bool.eq_false_iff, Ne, State.drives_iff]
      rcases listens with h | h <;> simp [h]
    have taken : exec (.peerFrame frame) s = .next (heard.followPosition f) := by
      unfold exec execPeerFrame
      simp only [State.listens, notDriving, State.not_inFullReset safe, idle, parsed]
      refine congrArg (fun u => Host.Outcome.next (State.followPosition u f)) ?_
      exact State.lockTimer_eq _ f
    have number : heard.bus.sweepNumber = f.number := by
      have locked := State.lockTimer_sweepNumber { s with mirror := s.mirror.hear f } f
      rw [State.lockTimer_eq] at locked
      exact locked
    refine ⟨fun kept => ?_, fun shadow quiet no => ?_, fun shadow quiet yes g grains => ?_⟩
    · rw [taken, State.followPosition_kept]
      exact kept.imp_left fun granted => by
        change s.own.state ≠ .shadow
        simp [granted]
    · rw [taken, State.followPosition_cleared (s := heard) shadow quiet no]
    · intro ppb limited confirmed tempo period adopted
      have followed := State.followPosition_adopted (s := heard) shadow quiet yes grains (tr := adopted.tracker)
        (Tracker.adopt_eq ..)
      rw [number] at followed
      exact taken.trans (congrArg _ followed)

end Sys2Proof.Machine
end

section
/-!
Shadow operation (07): silence and divergence.
-/

namespace Sys2Proof.Machine

set_option Elab.async false

/-! ### Silence (R127) -/

/-- A silence begins at a boundary. -/
abbrev SilenceBegins (s : State) (b : Boundary) : Prop :=
  b.byPeer = false ∧ s.mirror.silent = false
    ∧ (if s.mirror.link = LinkState.quiet then 19 else 3) ≤ s.mirror.silence + 1

theorem State.silenceAt_begins {s : State} {b : Boundary} (h : SilenceBegins s b) :
    s.silenceAt b = ({ s with mirror := { s.mirror with
        silence := s.mirror.silence + 1, silent := true, divergence := 0 } }).post (.peerSilent
          (if s.mirror.current then some s.mirror.number else none) (s.mirror.silence + 1)
          (decide (s.mirror.link = LinkState.quiet))) := by
  obtain ⟨own, heard, long⟩ := h
  unfold State.silenceAt State.countSilence
  rw [if_neg (by simp [own])]
  simp only
  refine if_pos ?_
  rw [Bool.and_eq_true, decide_eq_true_iff, Bool.not_eq_true']
  exact ⟨long, heard⟩

theorem State.silenceAt_goes {s : State} {b : Boundary} (h : ¬ SilenceBegins s b) :
    s.silenceAt b
      = if b.byPeer then s else { s with mirror := { s.mirror with silence := s.mirror.silence + 1 } } := by
  unfold State.silenceAt State.countSilence
  by_cases peer : b.byPeer = true
  · rw [if_pos peer, if_pos peer]
  · rw [if_neg peer, if_neg peer]
    simp only
    refine if_neg ?_
    rw [Bool.and_eq_true, decide_eq_true_iff, Bool.not_eq_true']
    rintro ⟨long, heard⟩
    exact h ⟨Bool.eq_false_iff.mpr peer, heard, long⟩

theorem State.silenceAt_eq (s : State) (b : Boundary) :
    s.silenceAt b =
      if SilenceBegins s b then
        ({ s with mirror := { s.mirror with
          silence := s.mirror.silence + 1, silent := true, divergence := 0 } }).post (.peerSilent
            (if s.mirror.current then some s.mirror.number else none) (s.mirror.silence + 1)
            (decide (s.mirror.link = LinkState.quiet)))
      else if b.byPeer then s else { s with mirror := { s.mirror with silence := s.mirror.silence + 1 } } := by
  by_cases begins : SilenceBegins s b
  · rw [if_pos begins, State.silenceAt_begins begins]
  · rw [if_neg begins, State.silenceAt_goes begins]

/-- Without a silence the boundary counts, or not. -/
theorem State.silenceAt_counts {s : State} {b : Boundary} (h : ¬ SilenceBegins s b) :
    ∃ k, s.silenceAt b = { s with mirror := { s.mirror with silence := k } } := by
  rw [State.silenceAt_goes h]
  split
  · exact ⟨_, rfl⟩
  · exact ⟨_, rfl⟩

theorem State.silenceAt_silent {s : State} {b : Boundary} (h : SilenceBegins s b) :
    (s.silenceAt b).mirror.silent = true := by
  rw [State.silenceAt_begins h, State.post_mirror]

theorem State.silenceEnds_iff {s : State} {b : Boundary} {due : List Boundary} (hb : s.bus.ownershipDue = b :: due)
    (listens : s.drives = false) : s.silenceEnds = true ↔ SilenceBegins s b := by
  unfold State.silenceEnds State.listens
  simp only [hb, listens, Bool.not_false, Bool.true_and, Bool.and_eq_true, Bool.not_eq_true', decide_eq_true_eq, and_assoc]
  rfl

/-! ### Agreement and the peer cue (R128, R129) -/

theorem agrees_iff {c : Screen} {e : AsShown} : agrees c e = true ↔ Agrees c e := by
  have blank : (decide (e.liveTag = 0) == c.showsBlank) = true ↔ (e.liveTag = 0 ↔ ShowsBlank c) := by
    rw [beq_iff_eq, Bool.eq_iff_iff, decide_eq_true_iff, showsBlank_iff]
  unfold agrees
  simp only [Bool.and_eq_true, blank, decide_eq_true_eq, beq_iff_eq, Bool.not_eq_true', and_assoc]
  exact Iff.rfl

theorem State.disagreeing_eq (s : State) :
    s.disagreeing = fourNumbers.filter (fun i => (s.screens.get i).setup.isSome
      && !decide (Agrees (s.screens.get i) (s.mirror.screens.get i))) := by
  unfold State.disagreeing State.enabled
  rw [List.filter_filter]
  refine List.filter_congr fun i _ => ?_
  rw [Bool.and_comm]
  congr 2
  rw [Bool.eq_iff_iff, decide_eq_true_iff, agrees_iff]

theorem namedCue_eq (e : AsShown) :
    namedCue e = if e.kind = SourceKind.cue ∨ e.kind = SourceKind.blank then e.cue else none := by
  unfold namedCue
  cases e.kind <;> rfl

theorem Mirror.peerCue_eq (m : Mirror) :
    m.peerCue = fourNumbers.findSome? (fun i =>
      let e := m.screens.get i
      if e.kind = SourceKind.cue ∨ e.kind = SourceKind.blank then e.cue else none) := by
  unfold Mirror.peerCue
  simp only [namedCue_eq]

/-! ### Divergence and adoption (R128, R129) -/

theorem State.testDivergence_agrees {s : State} (h : s.disagreeing = []) (b : Boundary) :
    s.testDivergence b = { s with mirror := { s.mirror with divergence := 0, divergenceOpen := false } } := by
  unfold State.testDivergence
  rw [h] <;> rfl

theorem State.testDivergence_differs {s : State} (h : s.disagreeing ≠ []) (b : Boundary) {count : Nat}
    (hc : min (s.mirror.divergence + 1) 255 = count) :
    s.testDivergence b =
      if s.params.divergenceSweeps ≤ count ∧ s.mirror.divergenceOpen = false then
        ({ s with mirror := { s.mirror with divergence := count, divergenceOpen := true } }).post
          (.divergence b.number s.disagreeing s.sched.live.cue s.mirror.peerCue count)
      else { s with mirror := { s.mirror with divergence := count } } := by
  subst hc
  unfold State.testDivergence
  rw [if_neg (by simpa [List.isEmpty_iff] using h)]
  refine if_congr ?_ rfl rfl
  rw [Bool.and_eq_true, decide_eq_true_iff, Bool.not_eq_true']

/-- The divergence count after the test. -/
theorem State.testDivergence_count (s : State) (b : Boundary) :
    (s.testDivergence b).mirror.divergence
      = if s.disagreeing = [] then 0 else min (s.mirror.divergence + 1) 255 := by
  by_cases agree : s.disagreeing = []
  · rw [State.testDivergence_agrees agree, if_pos agree]
  · rw [State.testDivergence_differs agree b rfl, if_neg agree]
    split
    · rw [State.post_mirror]
    · rfl

/-- The test leaves the mirror's entries. -/
theorem State.testDivergence_peerCue (s : State) (b : Boundary) :
    (s.testDivergence b).mirror.peerCue = s.mirror.peerCue := by
  unfold State.testDivergence
  split
  · rfl
  · simp only
    split
    · rw [State.post_mirror]
      rfl
    · rfl

theorem State.offerAdoption_declined {s : State}
    (h : s.params.shadowFollow = false ∨ s.mirror.divergence < s.params.divergenceSweeps ∨ Flying s
      ∨ s.mirror.peerCue = none ∨ ∃ m, s.mirror.peerCue = some m ∧ (s.sched.live.cue = some m ∨ s.cue? m = none)) :
    s.offerAdoption = s := by
  unfold State.offerAdoption
  cases peer : s.mirror.peerCue with
  | none => rfl
  | some m =>
    simp only
    split
    case isTrue offered =>
      simp only [Bool.and_eq_true, decide_eq_true_eq, bne_iff_ne] at offered
      obtain ⟨⟨follows, long⟩, other⟩ := offered
      unfold State.adoptCue
      by_cases flies : s.flight = true
      · rw [if_pos flies]
      · rw [if_neg flies]
        have missing : s.cue? m = none := by
          rcases h with h | h | h | h | ⟨n, named, h | h⟩
          · rw [h] at follows
            cases follows
          · omega
          · exact absurd (State.flight_iff.mpr h) flies
          · rw [h] at peer
            cases peer
          · obtain rfl := Option.some.inj (peer.symm.trans named)
            exact absurd h other
          · obtain rfl := Option.some.inj (peer.symm.trans named)
            exact h
        rw [missing]
    case isFalse => rfl

theorem State.lapse_none {s : State} (h : s.sched.pendingGo = none) (cause : LapseCause) : s.lapse cause = s := by
  unfold State.lapse
  rw [h]

theorem State.offerAdoption_taken {s : State} (follows : s.params.shadowFollow = true)
    (long : s.params.divergenceSweeps ≤ s.mirror.divergence) {m : Nat} (peer : s.mirror.peerCue = some m)
    (other : s.sched.live.cue ≠ some m) (quiet : ¬ Flying s) {c : Cue} (found : s.cue? m = some c) :
    let fired := s.fire c .adopt (if s.sched.mode = .idle then s.sched.next else s.following m)
    s.offerAdoption =
      if s.sched.pendingGo = none then fired
      else ({ fired with sched := { fired.sched with pendingGo := none } }).post
        (.goLapsed .adopt s.bus.sweepNumber) := by
  intro fired
  have pending : fired.sched.pendingGo = s.sched.pendingGo := by
    rw [State.fire_sched]
  have sweep : fired.bus.sweepNumber = s.bus.sweepNumber := State.fire_sweepNumber ..
  have offered : s.offerAdoption = fired.lapse .adopt := by
    unfold State.offerAdoption State.adoptCue
    simp only [peer]
    rw [if_pos (by simp [follows, long, other]), if_neg (mt State.flight_iff.mp quiet), found]
  rw [offered]
  by_cases go : s.sched.pendingGo = none
  · rw [if_pos go, State.lapse_none (pending.trans go)]
  · rw [if_neg go, State.lapse_eq, if_neg (by rw [pending]; exact go), sweep]

theorem State.divergenceEnds_iff {s : State} {b : Boundary} {due : List Boundary}
    (hb : s.bus.ownershipDue = b :: due) (shadow : s.own.state = .shadow) :
    s.divergenceEnds = true ↔ (s.mirror.current = true ∧ s.mirror.silent = false ∧ ¬ SilenceBegins s b)
      ∧ s.disagreeing ≠ [] ∧ s.params.divergenceSweeps ≤ min (s.mirror.divergence + 1) 255
      ∧ s.mirror.divergenceOpen = false := by
  have listens : s.drives = false := by
    rw [Bool.eq_false_iff, Ne, State.drives_iff]
    simp [shadow]
  have silence : s.silenceEnds = false ↔ ¬ SilenceBegins s b := by
    rw [Bool.eq_false_iff, Ne, State.silenceEnds_iff hb listens]
  unfold State.divergenceEnds
  simp only [hb, shadow, Bool.and_eq_true, decide_eq_true_eq, Bool.not_eq_true', silence, List.isEmpty_eq_false_iff,
    true_and]
  constructor
  · rintro ⟨⟨⟨⟨⟨current, heard⟩, goes⟩, some⟩, closed⟩, long⟩
    exact ⟨⟨current, heard, goes⟩, some, long, closed⟩
  · rintro ⟨⟨current, heard, goes⟩, some, long, closed⟩
    exact ⟨⟨⟨⟨⟨current, heard⟩, goes⟩, some⟩, closed⟩, long⟩

theorem State.ownershipNext_shadow {s : State} {b : Boundary} {due : List Boundary}
    (hb : s.bus.ownershipDue = b :: due) (quiet : s.resetUnit.period = none) (shadow : s.own.state = .shadow) {went : State}
    (hw : went = { s with bus := { s.bus with ownershipDue := due } }) :
    s.ownershipNext = (went.silenceAt b).compareMirror b := by
  subst hw
  unfold State.ownershipNext State.ownershipHandles
  rw [hb]
  simp only [State.inReset, quiet, shadow]
  rfl

theorem State.compareMirror_untested {s : State} (b : Boundary)
    (h : ¬ (s.mirror.current = true ∧ s.mirror.silent = false)) : s.compareMirror b = s :=
  if_neg (by simpa using h)

/-- A boundary in SHADOW at which the mirror is compared, no silence beginning. -/
theorem State.compareMirror_of_heard {s : State} (b : Boundary)
    (current : s.mirror.current = true) (heard : s.mirror.silent = false) :
    s.compareMirror b = (s.testDivergence b).offerAdoption := if_pos (by simp [current, heard])

/-- Settles O48. -/
theorem silenceAndDivergence : Obligations.SilenceAndDivergence := by
  unfold Obligations.SilenceAndDivergence
  intro s b due hb quiet shadow went n begins heard compares disagreeing peerCue count opens counted tested
  have listens : s.drives = false := by
    rw [Bool.eq_false_iff, Ne, State.drives_iff]
    simp [shadow]
  have silence : went.silenceAt b = heard := State.silenceAt_eq went b
  have boundary : exec .ownershipBoundary s = .next (heard.compareMirror b) :=
    congrArg _ ((State.ownershipNext_shadow hb quiet shadow rfl).trans (congrArg (State.compareMirror · b) silence))
  have ends : s.divergenceEnds = true ↔ compares ∧ disagreeing ≠ [] ∧ opens := by
    rw [State.divergenceEnds_iff hb shadow, State.disagreeing_eq]
  have expires : exec .divergenceCountExpiry s
      = if s.divergenceEnds then exec .ownershipBoundary s else .next s := rfl
  have silent : exec .silenceCountExpiry s
      = if s.silenceEnds then exec .ownershipBoundary s else .next s := rfl
  have untested : ¬ compares → exec .ownershipBoundary s = .next heard := by
    intro no
    refine boundary.trans (congrArg _ (State.compareMirror_untested b ?_))
    rintro ⟨current, quietly⟩
    by_cases begin_ : begins
    · have := State.silenceAt_silent (s := went) begin_
      rw [silence, quietly] at this
      cases this
    · obtain ⟨k, counts⟩ := State.silenceAt_counts (s := went) begin_
      rw [← silence, counts] at current quietly
      exact no ⟨current, quietly, begin_⟩
  have compared : compares → exec .ownershipBoundary s = .next tested.offerAdoption
      ∧ Same [.mirror, .port] went tested ∧ tested.mirror.peerCue = peerCue
      ∧ tested.mirror.divergence = if disagreeing = [] then 0 else count := by
    rintro ⟨current, quietly, goes⟩
    obtain ⟨k, counts⟩ := State.silenceAt_counts (s := went) goes
    rw [silence] at counts
    have differs : heard.disagreeing = disagreeing := by
      rw [State.disagreeing_eq, counts]
    have divergence : heard.mirror.divergence = s.mirror.divergence := by rw [counts]
    have peer : heard.mirror.peerCue = peerCue := by rw [counts]; exact Mirror.peerCue_eq _
    have test : heard.testDivergence b = tested := by
      by_cases agree : disagreeing = []
      · rw [State.testDivergence_agrees (differs.trans agree)]
        exact (if_pos agree).symm
      · have closed : heard.mirror.divergenceOpen = s.mirror.divergenceOpen := by rw [counts]
        have params : heard.params.divergenceSweeps = s.params.divergenceSweeps := by rw [counts]
        have live : heard.sched.live.cue = s.sched.live.cue := by rw [counts]
        refine (State.testDivergence_differs (by rwa [differs]) b (count := count) (by rw [divergence])).trans ?_
        rw [differs, peer, live]
        exact (if_congr (by rw [params, closed]) rfl rfl).trans (if_neg agree).symm
    refine ⟨?_, ?_, ?_, ?_⟩
    · rw [boundary, State.compareMirror_of_heard b (by rw [counts]; exact current) (by rw [counts]; exact quietly), test]
    · rw [← test]
      exact (silence ▸ went.silenceAt_same b).trans (heard.testDivergence_same b)
    · rw [← test, State.testDivergence_peerCue, peer]
    · rw [← test, State.testDivergence_count, differs, divergence]
  have declined : compares → (s.params.shadowFollow = false ∨ tested.mirror.divergence < s.params.divergenceSweeps
      ∨ Flying s ∨ peerCue = none ∨ ∃ m, peerCue = some m ∧ (s.sched.live.cue = some m ∨ s.cue? m = none)) →
      exec .ownershipBoundary s = .next tested := by
    intro comp no
    obtain ⟨runs, same, peer, -⟩ := compared comp
    have live : tested.sched.live.cue = s.sched.live.cue := by rw [same.sched (by decide)]
    have flying : Flying s → Flying tested := by
      unfold Flying
      rw [same.change (by decide), same.reports (by decide)]
      exact id
    rw [runs, State.offerAdoption_declined]
    rw [same.params (by decide), peer, live]
    refine no.imp id (Or.imp id (Or.imp flying (Or.imp id ?_)))
    rintro ⟨m, named, no⟩
    refine ⟨m, named, no.imp id fun missing => ?_⟩
    have found : tested.cue? m = s.cue? m := by
      unfold State.cue?
      rw [same.cues (by decide)]
    exact found.trans missing
  refine ⟨fun begin_ => ?_, fun goes => ?_, fun no => ⟨untested no, ?_⟩, fun comp still => ⟨?_, ?_, ?_⟩,
    fun comp follows some m c named found => ⟨fun long other free => ?_, fun no => ?_⟩, fun comp follows no => ?_,
    fun comp some open_ => ?_, fun comp no => ?_⟩
  · rw [silent, if_pos ((State.silenceEnds_iff hb listens).mpr begin_)]
    exact untested fun comp => comp.2.2 begin_
  · rw [silent, if_neg (mt (State.silenceEnds_iff hb listens).mp goes)]
  · rw [expires, if_neg fun h => no (ends.mp h).1]
  · exact declined comp (.inl still)
  · intro some open_
    rw [expires, if_pos (ends.mpr ⟨comp, some, open_⟩)]
    exact declined comp (.inl still)
  · intro no
    rw [expires, if_neg fun h => ?_]
    exact no.elim (ends.mp h).2.1 (fun h' => h' (ends.mp h).2.2)
  · intro fired
    obtain ⟨runs, same, peer, divergence⟩ := compared comp
    rw [if_neg some] at divergence
    have params : tested.params = s.params := same.params (by decide)
    have sched : tested.sched = s.sched := same.sched (by decide)
    have cues : tested.cues = s.cues := same.cues (by decide)
    have flying : Flying tested → Flying s := by
      unfold Flying
      rw [same.change (by decide), same.reports (by decide)]
      exact id
    have listed : tested.cue? m = Option.some c := by
      unfold State.cue?
      rw [cues]
      exact found
    have after : tested.following m = s.following m := by
      unfold State.following
      rw [cues]
    have sweep : tested.bus.sweepNumber = s.bus.sweepNumber := by rw [same.bus (by decide)]
    have adopted := State.offerAdoption_taken (by rw [params]; exact follows) (by rw [params, divergence]; exact long)
      (peer.trans named) (by rw [sched]; exact other) (mt flying free) listed
    rw [sched, after, sweep] at adopted
    rw [runs, adopted]
  · have divergence := (compared comp).2.2.2
    rw [if_neg some] at divergence
    rcases no with short | live | flies
    · exact declined comp (.inr (.inl (by rw [divergence]; exact short)))
    · exact declined comp (.inr (.inr (.inr (.inr ⟨m, named, .inl live⟩))))
    · exact declined comp (.inr (.inr (.inl flies)))
  · have divergence := (compared comp).2.2.2
    rcases no with ⟨agree, least⟩ | unnamed | ⟨m, named, missing⟩
    · rw [if_pos agree] at divergence
      exact declined comp (.inr (.inl (by omega)))
    · exact declined comp (.inr (.inr (.inr (.inl unnamed))))
    · exact declined comp (.inr (.inr (.inr (.inr ⟨m, named, .inr missing⟩))))
  · rw [expires, if_pos (ends.mpr ⟨comp, some, open_⟩)]
  · rw [expires, if_neg fun h => ?_]
    exact no.elim (ends.mp h).2.1 (fun h' => h' (ends.mp h).2.2)

end Sys2Proof.Machine
end

section
/-!
Entering DRIVING (07, section 7.3): its phases, its first mark, and the takeover.
-/

namespace Sys2Proof.Machine

set_option Elab.async false

/-! ### What the phases leave standing -/

/-- The pending takeover and the controller's boundaries stand as they did. -/
structure Standing (s t : State) : Prop where
  takeover : t.own.takeover = s.own.takeover := by rfl
  due : t.bus.controllerDue = s.bus.controllerDue := by rfl

theorem Standing.trans {s t u : State} (h : Standing s t) (h' : Standing t u) : Standing s u :=
  ⟨h'.takeover.trans h.takeover, h'.due.trans h.due⟩

theorem Standing.ofPost (s : State) (n : Notice) : Standing s (s.post n) := by
  rw [State.post_frame]
  exact {}

theorem Standing.ofBuild (s : State) (firing : Option Firing) (carried : List Take) (takeover : Bool) :
    Standing s (s.build firing carried takeover) where
  takeover := by rw [(s.build_same firing carried takeover).own (by decide)]
  due := congrArg (fun t => t.bus.controllerDue) (s.build_withControllerDue s.bus.controllerDue firing carried takeover)

theorem Standing.ofComposeWork (s : State) : Standing s s.composeWork where
  takeover := by rw [s.composeWork_same.own (by decide)]
  due := congrArg (fun t => t.bus.controllerDue) (s.composeWork_withControllerDue s.bus.controllerDue)

theorem Standing.ofWithCleared (s : State) (which : Fin 4 → Bool) : Standing s (s.withCleared which) :=
  Standing.trans (t := { s with screens := s.screens.mapIdx (fun i c =>
    if which i then { c with partialMark := false, reissue := c.reissue || c.setup.isSome } else c) }) {}
    (.ofComposeWork _)

theorem Standing.ofWithMark (s : State) (b : Boundary) (quiet wake takeover carries : Bool) :
    Standing s (s.withMark b quiet wake takeover carries) := {}

theorem Standing.ofWithTestedMark (s : State) (b : Boundary) (quiet wake takeover carries : Bool) :
    Standing s (s.withTestedMark b quiet wake takeover carries) := by
  unfold State.withTestedMark
  cases s.change with
  | none => exact .ofWithMark ..
  | some c =>
    simp only
    split
    · let committed := (s.withCommit b c true).withSent b quiet wake takeover carries (commitGives s c)
      exact Standing.trans (t := { committed with screens := committed.screens.mapIdx (fun i sc =>
        { sc with restore := sc.restore || c.initialBlanks.contains i }) }) {} (.ofComposeWork _)
    · exact .ofWithMark ..

theorem Standing.ofSetLink (s : State) (link : LinkState) (n : SweepNo) (cause : LinkCause) :
    Standing s (s.setLink link n cause) := by
  unfold State.setLink
  split
  · exact {}
  · exact Standing.trans (t := { s with bus := { s.bus with link := link } }) {} (.ofPost ..)

theorem Standing.ofTakeover (s : State) : Standing s s.takeover := by
  unfold State.takeover
  cases s.change <;>
    exact Standing.trans (t := { s.updScreens (fun i c =>
      { c.takenOver (s.mirror.screens.get i) (s.disagreeing.contains i) with pendingShown := none }) with
        change := none, own := { s.own with heldChange := false } }) {} (.ofBuild ..)

theorem Standing.ofAbortTest (s : State) (cause : TestAbort) : Standing s (s.abortTest cause) where
  takeover := by rw [(s.abortTest_same cause).own (by decide)]
  due := by rw [(s.abortTest_same cause).bus (by decide)]

/-! ### The phases before the first mark -/

/-- The part as its first mark finds it: DRIVE risen, and the takeover made (R132, R133). -/
def State.readyToDrive (s : State) (b : Boundary) : State :=
  let s0 := s.abortTest .driveStart
  let s1 := { s0 with own := { s0.own with drive := true, state := .driving } }
  let s2 := s1.takeLink b
  if s2.own.takeover then s2.takeover else s2

theorem State.enterDriving_eq (s : State) (b : Boundary) :
    s.enterDriving b = ((s.readyToDrive b).firstBoundary b).driven b := rfl

theorem Standing.ofTakeLink (s : State) (b : Boundary) : Standing s (s.takeLink b) := by
  unfold State.takeLink
  split
  · exact .ofSetLink ..
  · exact {}

theorem Standing.ofReadyToDrive (s : State) (b : Boundary) : Standing s (s.readyToDrive b) := by
  let raised : State := { s.abortTest .driveStart with
    own := { (s.abortTest .driveStart).own with drive := true, state := .driving } }
  have linked : Standing raised (raised.takeLink b) := .ofTakeLink raised b
  refine (Standing.ofAbortTest s .driveStart).trans (Standing.trans (t := raised) {} (linked.trans ?_))
  change Standing _ (if (raised.takeLink b).own.takeover then (raised.takeLink b).takeover else raised.takeLink b)
  split
  · exact .ofTakeover _
  · exact {}

/-- What a part that begins to drive has left, and its OWNERSHIP notice (R132, R134, log 8). -/
def State.drivingAt (s : State) (b : Boundary) (took : Bool) (due : List Boundary) : State :=
  ({ s with
    own := { s.own with takeover := false, contention := 0 }
    mirror := { s.mirror with
      current := false, silence := 0, silent := false, divergence := 0, divergenceOpen := false }
    bus := { s.bus with controllerDue :=
      if ∃ x ∈ due, x.number = b.number then (due.dropWhile (fun x => x.number != b.number)).tail else due } } : State).post
        (.ownership .driving .granted b.number .driveStart took)

theorem Standing.driven {s u : State} (h : Standing s u) (b : Boundary) :
    u.driven b = u.drivingAt b s.own.takeover s.bus.controllerDue := by
  have left : dropThrough b.number s.bus.controllerDue
      = if ∃ x ∈ s.bus.controllerDue, x.number = b.number then
          (s.bus.controllerDue.dropWhile (fun x => x.number != b.number)).tail
        else s.bus.controllerDue := by
    unfold dropThrough
    exact if_congr (by simp) rfl rfl
  unfold State.driven State.drivingAt
  simp only [h.takeover, h.due, left]

/-! ### The first mark (R134) -/

theorem State.firstMark_active {s : State} (running : s.resetUnit.period = none) (active : s.bus.link = .active)
    (b : Boundary) : s.firstMark b = s.withTestedMark b false false s.own.takeover true := by
  unfold State.firstMark
  rw [active]
  refine (State.markUncounted_tested running b _ (.inl rfl)).trans ?_
  rw [active]
  rfl

theorem State.firstMark_waking_plain {s : State} (running : s.resetUnit.period = none) (waking : s.bus.link = .waking)
    (swap : GivesSwap s) (b : Boundary) :
    s.firstMark b = State.withMark { s with bus := { s.bus with sinceWake := 0 } } b false true s.own.takeover false := by
  have rests : decide (s.bus.link = .active) = false := by simp [waking]
  unfold State.firstMark
  rw [waking]
  refine (State.markUncounted_plain (s := { s with bus := { s.bus with sinceWake := 0 } }) running b _ swap).trans ?_
  exact congrArg (State.withMark _ b false true s.own.takeover) rests

theorem State.firstMark_waking_tested {s : State} (running : s.resetUnit.period = none) (waking : s.bus.link = .waking)
    (plain : ¬ GivesSwap s) (b : Boundary) :
    s.firstMark b
      = State.withTestedMark { s with bus := { s.bus with sinceWake := 0 } } b false true s.own.takeover false := by
  have rests : decide (s.bus.link = .active) = false := by simp [waking]
  unfold State.firstMark
  rw [waking]
  refine (State.markUncounted_tested (s := { s with bus := { s.bus with sinceWake := 0 } }) running b _ (.inr plain)).trans ?_
  exact congrArg (State.withTestedMark _ b false true s.own.takeover) rests

theorem State.firstMark_quiet_wakes {s : State} (running : s.resetUnit.period = none) (quiet : s.bus.link = .quiet)
    (swap : GivesSwap s) (b : Boundary) :
    s.firstMark b = (({ s with bus := { s.bus with sinceWake := 0, link := .waking } } : State).post
      (.linkState .waking .quiet b.number .wake)).withMark b false true s.own.takeover false := by
  obtain ⟨c, hc, swaps⟩ := swap
  have woken : State.setLink { s with bus := { s.bus with sinceWake := 0 } } .waking b.number .wake
      = ({ s with bus := { s.bus with sinceWake := 0, link := .waking } } : State).post
        (.linkState .waking .quiet b.number .wake) :=
    (State.setLink_other (by simp [quiet]) ..).trans (by rw [quiet])
  have marked : s.firstMark b = (State.setLink { s with bus := { s.bus with sinceWake := 0 } } .waking b.number
      .wake).plainMark b { MarkFlags.clear with takeover := s.own.takeover, wake := true } := by
    unfold State.firstMark
    simp only [quiet, show s.change = some c from hc, if_pos (Change.givesSwap_iff.mpr swaps)]
  rw [marked, woken]
  exact State.plainMark_rests (by rw [State.post_resetUnit]; exact running) (by simp) ..

theorem State.firstMark_quiet_tested {s : State} (running : s.resetUnit.period = none) (quiet : s.bus.link = .quiet)
    (plain : ¬ GivesSwap s) (b : Boundary) :
    s.firstMark b = s.withTestedMark b true false s.own.takeover false := by
  have rests : decide (s.bus.link = .active) = false := by simp [quiet]
  have tested := State.markUncounted_tested running b { MarkFlags.clear with takeover := s.own.takeover, quiet := true }
    (swapTested := false) (.inr plain)
  rw [rests] at tested
  refine Eq.trans ?_ tested
  unfold State.firstMark
  rw [quiet]
  refine if_neg ?_
  cases hc : s.change with
  | none => simp
  | some c => exact fun swap => plain ⟨c, hc, Change.givesSwap_iff.mp swap⟩

/-! ### The first boundary, with its test of the partial marks (R100, R134) -/

theorem State.firstBoundary_kept {s : State} (none : ∀ i, ¬ ClearDue s i) (b : Boundary) :
    s.firstBoundary b = s.firstMark b := by
  have nil := State.clearDue_eq_nil none
  have before : s.beforeMark = s := if_pos (by simp [nil])
  unfold State.firstBoundary
  rw [before, nil]
  exact if_pos (by simp)

theorem State.build_link (s : State) (firing : Option Firing) (carried : List Take) (takeover : Bool) :
    (s.build firing carried takeover).bus.link = s.bus.link := by
  rw [State.build_eq s firing carried takeover rfl rfl]
  split
  · rfl
  · rw [State.handOver_eq _ _ (fun _ => rfl)]
    rfl

theorem State.withCleared_link (s : State) (which : Fin 4 → Bool) : (s.withCleared which).bus.link = s.bus.link := by
  unfold State.withCleared State.composeWork
  split
  · exact State.build_link ..
  · rfl

theorem State.firstBoundary_clearsFirst {s : State} (running : s.resetUnit.period = none) (apart : TilesApart s)
    (active : s.bus.link = .active) (some : ∃ i, ClearDue s i) (first : Config.partialClearFirst s.freeCount = true)
    (b : Boundary) :
    s.firstBoundary b = (State.withCleared { s with freeCount := s.freeCount + 1 }
      (fun i => decide (ClearDue s i))).withTestedMark b false false s.own.takeover true := by
  let spent : State := { s with freeCount := s.freeCount + 1 }
  let cleared := spent.withCleared (fun i => decide (ClearDue s i))
  have calm : Calm spent cleared :=
    (calm_composeWork _).after (calm_updScreens spent _ fun i c => by split <;> rfl)
  have before : s.beforeMark = cleared := by
    rw [State.beforeMark_found running some, if_pos first, State.clearPartial_eq, State.contains_clearDue]
    rfl
  have settled : ∀ i, ¬ ClearDue cleared i := State.withCleared_settled spent
  have apart' : TilesApart cleared := by
    unfold TilesApart
    rw [calm.addresses]
    exact apart
  have marked : cleared.firstMark b = cleared.withTestedMark b false false s.own.takeover true := by
    rw [State.firstMark_active (calm.period.trans running) ((State.withCleared_link ..).trans active),
      (Standing.ofWithCleared spent _).takeover]
  have link : cleared.bus.link = .active := (State.withCleared_link ..).trans active
  have kept : MarksKept cleared (cleared.firstMark b) := by
    unfold State.firstMark
    rw [link]
    exact .ofMarkUncounted apart' ..
  have after := State.clearDue_eq_nil (kept.not_clearDue settled)
  unfold State.firstBoundary
  rw [before, ← marked]
  exact if_pos (by simp [after])

theorem State.firstBoundary_clearsAfter {s : State} (running : s.resetUnit.period = none)
    (active : s.bus.link = .active) (some : ∃ i, ClearDue s i) (last : Config.partialClearFirst s.freeCount = false)
    (unchanged : s.change = none) (b : Boundary) :
    s.firstBoundary b = (State.withMark { s with freeCount := s.freeCount + 1 } b false false s.own.takeover
      true).withCleared (fun i => decide (ClearDue s i)) := by
  let spent : State := { s with freeCount := s.freeCount + 1 }
  have before : s.beforeMark = spent := by
    rw [State.beforeMark_found running some, if_neg (by simp [last])]
    rfl
  have marked : spent.firstMark b = spent.withMark b false false s.own.takeover true := by
    rw [State.firstMark_active (s := spent) running active]
    unfold State.withTestedMark
    rw [show spent.change = none from unchanged]
  have found : s.clearDue ≠ [] := by
    obtain ⟨i, hi⟩ := some
    exact List.ne_nil_of_mem (State.mem_clearDue.mpr hi)
  have remain : s.clearDue.filter (fun i => (spent.withMark b false false s.own.takeover true).clearDue.contains i)
      = s.clearDue := by
    rw [List.filter_eq_self]
    intro i hi
    rw [List.contains_iff_mem, State.mem_clearDue, clearDue_withMark]
    exact State.mem_clearDue.mp hi
  unfold State.firstBoundary State.afterMark
  simp only [before, marked, remain]
  rw [if_neg, State.clearPartial_eq, State.contains_clearDue]
  have period : (spent.withMark b false false s.own.takeover true).inReset = false := State.inReset_eq_false running
  simp [period, found]

/-! ### The takeover (R133) -/

theorem State.mem_disagreeing {s : State} {i : Fin 4} (some : (s.screens.get i).setup ≠ none) :
    s.disagreeing.contains i = !decide (Agrees (s.screens.get i) (s.mirror.screens.get i)) := by
  rw [State.disagreeing_eq, Bool.eq_iff_iff, List.contains_iff_mem, List.mem_filter, Bool.and_eq_true,
    Option.isSome_iff_ne_none]
  exact ⟨fun h => h.2.2, fun h => ⟨mem_fourNumbers i, some, h⟩⟩

theorem mirrorSource_found (e : AsShown) :
    (e.liveTag != 0 && e.page.isSome && (mirrorSource e).page?.isSome)
      = decide (e.liveTag ≠ 0 ∧ e.page ≠ none ∧ (e.kind = .cue ∨ e.kind = .override)) := by
  have paged : (mirrorSource e).page?.isSome = true ↔ e.kind = .cue ∨ e.kind = .override := by
    unfold mirrorSource
    cases e.kind <;> simp [Source.page?]
  rw [Bool.eq_iff_iff, decide_eq_true_iff, Bool.and_eq_true, Bool.and_eq_true, paged, bne_iff_ne,
    Option.isSome_iff_ne_none, and_assoc]

theorem Screen.takenOver_disabled {c : Screen} (off : c.setup = none) (e : AsShown) (told : Bool) :
    c.takenOver e told = c := by
  unfold Screen.takenOver
  rw [off]

theorem Screen.takenOver_enabled {c : Screen} (on : c.setup ≠ none) (e : AsShown) (told : Bool) :
    c.takenOver e told = { c with
      live := { source := mirrorSource e
                found := e.liveTag != 0 && e.page.isSome && (mirrorSource e).page?.isSome }
      liveTag := e.liveTag, tagCounter := bumpTag e.tagCounter, partialMark := false
      kept := if told then [] else c.kept, reissue := c.reissue || told } := by
  unfold Screen.takenOver
  split
  case h_1 off => exact absurd off on
  case h_2 => rfl

/-- A screen after the takeover, as the statement writes it. -/
theorem Screen.takenOver_eq (c : Screen) (e : AsShown) {told disagrees : Bool} (h : c.setup ≠ none → told = disagrees) :
    { c.takenOver e told with pendingShown := none } =
      if c.setup = none then { c with pendingShown := none }
      else { c with
        live := { source := mirrorSource e
                  found := decide (e.liveTag ≠ 0 ∧ e.page ≠ none ∧ (e.kind = .cue ∨ e.kind = .override)) }
        pendingShown := none, liveTag := e.liveTag
        tagCounter := if 255 ≤ e.tagCounter then 1 else e.tagCounter + 1
        partialMark := false, kept := if disagrees then [] else c.kept, reissue := c.reissue || disagrees } := by
  by_cases off : c.setup = none
  · rw [if_pos off, Screen.takenOver_disabled off]
  · rw [if_neg off, Screen.takenOver_enabled off, mirrorSource_found, h off]
    rfl

/-- A firing is handed over, with nothing acknowledged. -/
theorem State.build_firing (s : State) (f : Firing) (carried : List Take) (takeover : Bool) :
    ∃ d, (s.build (some f) carried takeover).change = some d ∧ d.firing = some f ∧ d.acked = [] ∧ d.markCount = 0 := by
  rw [State.build_eq s (some f) carried takeover rfl rfl, if_neg (by simp), State.handOver_eq _ _ (fun _ => rfl)]
  exact ⟨_, rfl, rfl, rfl, rfl⟩

theorem State.takeover_eq (s : State) {inLine : Fin 4 → Screen → Screen}
    (h : ∀ i, inLine i (s.screens.get i) = { (s.screens.get i).takenOver (s.mirror.screens.get i)
      (s.disagreeing.contains i) with pendingShown := none }) :
    s.takeover = State.build
      { s with screens := s.screens.mapIdx inLine, change := none, own := { s.own with heldChange := false } }
      (s.change.bind (fun c => c.firing)) (match s.change with | some c => c.takes | none => []) true := by
  have screens : s.screens.mapIdx inLine = s.screens.mapIdx (fun i c =>
      { c.takenOver (s.mirror.screens.get i) (s.disagreeing.contains i) with pendingShown := none }) := by
    refine Four.ext_get fun i => ?_
    rw [Four.get_mapIdx, Four.get_mapIdx, h]
  rw [screens]
  unfold State.takeover
  cases s.change <;> rfl

/-! ### The boundary of a GRANTED part (R131) -/

theorem State.ownershipNext_granted {s : State} {b : Boundary} {due : List Boundary}
    (hb : s.bus.ownershipDue = b :: due) (running : s.resetUnit.period = none) (granted : s.own.state = .granted) :
    s.ownershipNext = (State.silenceAt { s with bus := { s.bus with ownershipDue := due } } b).grantedBoundary b := by
  unfold State.ownershipNext State.ownershipHandles
  rw [hb]
  simp only [State.inReset, running, granted]
  rfl

theorem State.contentionEnds_iff {s : State} {b : Boundary} {due : List Boundary} (hb : s.bus.ownershipDue = b :: due) :
    s.contentionEnds = true ↔ s.own.state = .granted ∧ s.own.peerDrive = true ∧ s.own.contention + 1 = 25 := by
  unfold State.contentionEnds
  simp only [hb, Bool.and_eq_true, decide_eq_true_eq, and_assoc]

theorem State.hasReason_iff {s : State} :
    s.hasReason = true ↔ s.params.busHold = true ∨ s.change ≠ none ∨ s.own.takeover = true := by
  unfold State.hasReason
  rw [Bool.or_eq_true, Bool.or_eq_true, Option.isSome_iff_ne_none, or_assoc]

theorem State.grantedBoundary_waits {s : State} (busy : s.own.peerDrive = true) (b : Boundary) {counted : State}
    (hc : counted = { s with own := { s.own with contention := s.own.contention + 1 } }) :
    s.grantedBoundary b = if s.own.contention + 1 = 25 then counted.post (.contention .waiting 25 b.number)
      else counted := by
  subst hc
  unfold State.grantedBoundary
  rw [if_pos busy]
  simp only
  split
  case isTrue full => rw [full]
  case isFalse => rfl

theorem State.grantedBoundary_listens {s : State} (free : s.own.peerDrive = false) (reason : ¬ s.hasReason = true)
    (b : Boundary) : s.grantedBoundary b = s := by
  unfold State.grantedBoundary
  rw [if_neg (by simp [free]), if_neg reason]

theorem State.grantedBoundary_drives {s : State} (free : s.own.peerDrive = false) (reason : s.hasReason = true)
    (b : Boundary) : s.grantedBoundary b = ((s.readyToDrive b).firstBoundary b).driven b := by
  rw [← State.enterDriving_eq]
  unfold State.grantedBoundary
  rw [if_neg (by simp [free]), if_pos reason]

theorem State.takeLink_eq (s : State) (b : Boundary) :
    s.takeLink b = if s.own.takeover = true ∧ s.mirror.link ≠ s.bus.link then
        ({ s with bus := { s.bus with link := s.mirror.link } }).post
          (.linkState s.mirror.link s.bus.link b.number .ownership)
      else s := by
  unfold State.takeLink State.setLink
  by_cases takes : s.own.takeover = true
  · by_cases same : s.bus.link = s.mirror.link
    · rw [if_pos takes, if_pos same, if_neg (fun other => other.2 same.symm)]
    · rw [if_pos takes, if_neg same, if_pos ⟨takes, Ne.symm same⟩]
  · rw [if_neg takes, if_neg (fun taken => takes taken.1)]

/-- The phases before the first mark, as the statement writes them. -/
theorem State.readyToDrive_eq {s tested raised linked : State} {b : Boundary} (ht : s.abortTest .driveStart = tested)
    (hr : { tested with own := { tested.own with drive := true, state := .driving } } = raised)
    (hl : raised.takeLink b = linked) :
    s.readyToDrive b = if linked.own.takeover then linked.takeover else linked := by
  subst ht hr hl
  rfl

theorem State.readyToDrive_same (s : State) (b : Boundary) :
    Same [.screens, .change, .bus, .own, .port, .lineTest] s (s.readyToDrive b) := by
  let raised : State := { s.abortTest .driveStart with
    own := { (s.abortTest .driveStart).own with drive := true, state := .driving } }
  have own : Same [.own] (s.abortTest .driveStart) raised := by
    constructor <;> intro h <;> first | rfl | simp at h
  have took : ∀ u : State, Same [.screens, .change, .bus, .own] u (if u.own.takeover then u.takeover else u) := by
    intro u
    split
    · exact u.takeover_same
    · exact Same.refl _ _
  exact (s.abortTest_same .driveStart).andThen (Same.andThen (changed := [.screens, .change, .bus, .own, .port]) own
    (Same.andThen (changed := [.screens, .change, .bus, .own, .port]) (raised.takeLink_same b) (took _)))

/-- Without a takeover only the test is aborted and DRIVE rises. -/
theorem State.readyToDrive_untaken {s : State} (free : s.own.takeover = false) (b : Boundary) :
    s.readyToDrive b = { s.abortTest .driveStart with
      own := { (s.abortTest .driveStart).own with drive := true, state := .driving } } := by
  have still : (s.abortTest .driveStart).own.takeover = false := (Standing.ofAbortTest s .driveStart).takeover.trans free
  rw [State.readyToDrive_eq rfl rfl (State.takeLink_eq _ b), if_neg (by simp [still]), if_neg (by simp [still])]

theorem Standing.ofSilenceAt (s : State) (b : Boundary) : Standing s (s.silenceAt b) where
  takeover := by rw [(s.silenceAt_same b).own (by decide)]
  due := by rw [(s.silenceAt_same b).bus (by decide)]

theorem State.silenceAt_link (s : State) (b : Boundary) : (s.silenceAt b).mirror.link = s.mirror.link := by
  rw [State.silenceAt_eq]
  split
  · rw [State.post_mirror]
  · split <;> rfl

/-- Settles O49. -/
theorem grantedPartDrives : Obligations.GrantedPartDrives := by
  unfold Obligations.GrantedPartDrives
  refine ⟨fun s b due hb running granted => ?_, fun s => ?_⟩
  · intro went n heard reason counted
    have silence : went.silenceAt b = heard := State.silenceAt_eq went b
    have boundary : exec .ownershipBoundary s = .next (heard.grantedBoundary b) :=
      congrArg _ ((State.ownershipNext_granted hb running granted).trans (congrArg (State.grantedBoundary · b) silence))
    have expires : exec .contentionCountExpiry s
        = if s.contentionEnds then exec .ownershipBoundary s else .next s := rfl
    have same := silence ▸ went.silenceAt_same b
    have own : heard.own = s.own := same.own (by decide)
    have reasons : heard.hasReason = true ↔ reason := by
      rw [State.hasReason_iff, same.params (by decide), same.change (by decide), own]
    refine ⟨fun busy => ?_, fun free => ?_, fun free none => ?_, fun free some => ?_⟩
    · have waits := State.grantedBoundary_waits (s := heard) (by rw [own]; exact busy) b (counted := counted) (by rw [own])
      rw [own] at waits
      refine ⟨fun full => ?_, fun early => ?_⟩
      · have counts : exec .ownershipBoundary s = .next (counted.post (.contention .waiting 25 b.number)) := by
          rw [boundary, waits, if_pos full]
        exact ⟨counts, expires.trans ((if_pos ((State.contentionEnds_iff hb).mpr ⟨granted, busy, full⟩)).trans counts)⟩
      · refine ⟨by rw [boundary, waits, if_neg early], expires.trans (if_neg fun ends => ?_)⟩
        exact early ((State.contentionEnds_iff hb).mp ends).2.2
    · refine expires.trans (if_neg fun ends => ?_)
      have := ((State.contentionEnds_iff hb).mp ends).2.1
      simp [free] at this
    · rw [boundary, State.grantedBoundary_listens (by rw [own]; exact free) (by rwa [reasons])]
    · intro takes test tested raised linked ready woken driving
      have aborted : heard.abortTest .driveStart = tested :=
        State.abortTest_eq (s := s) (same.lineTest (by decide)) (same.params (by decide)) (by rw [same.bus (by decide)])
          (by decide)
      have testedOwn : tested.own = s.own := by
        rw [← aborted, (heard.abortTest_same _).own (by decide), own]
      have raisedLink : raised.bus.link = s.bus.link := by
        change tested.bus.link = _
        rw [← aborted, (heard.abortTest_same _).bus (by decide), same.bus (by decide)]
      have raisedMirror : raised.mirror.link = s.mirror.link := by
        change tested.mirror.link = _
        rw [← aborted, (heard.abortTest_same _).mirror (by decide), ← silence, State.silenceAt_link]
      have taken : raised.takeLink b = linked := by
        rw [State.takeLink_eq, raisedLink, raisedMirror]
      have linkedOwn : linked.own.takeover = takes := by
        rw [← taken, (Standing.ofTakeLink raised b).takeover]
      have phases : heard.readyToDrive b = ready := by
        rw [State.readyToDrive_eq aborted (by rw [testedOwn]) taken, linkedOwn]
      have standing : Standing s ready := by
        rw [← phases, ← silence]
        exact (Standing.trans (t := went) {} (.ofSilenceAt went b)).trans (.ofReadyToDrive _ b)
      have readySame := phases ▸ heard.readyToDrive_same b
      have quietly : ready.resetUnit.period = none := by
        rw [readySame.resetUnit (by decide), same.resetUnit (by decide)]
        exact running
      have drives : ∀ u, ready.firstBoundary b = u → Standing ready u →
          exec .ownershipBoundary s = .next (driving u) := by
        rintro u rfl stands
        rw [boundary, State.grantedBoundary_drives (by rw [own]; exact free) (reasons.mpr some), phases,
          (standing.trans stands).driven]
        rfl
      refine ⟨fun kept => ⟨fun active => ?_, fun waking => ⟨fun swap => ?_, fun plain => ?_⟩,
        fun quiet => ⟨fun swap => ?_, fun plain => ?_⟩⟩, fun due_ untaken active addresses => ?_⟩
      · refine drives _ ?_ (.ofWithTestedMark ..)
        rw [State.firstBoundary_kept kept, State.firstMark_active quietly active, standing.takeover]
      · refine drives _ ?_ (Standing.trans (t := woken) {} (.ofWithMark ..))
        rw [State.firstBoundary_kept kept, State.firstMark_waking_plain quietly waking swap, standing.takeover]
      · refine drives _ ?_ (Standing.trans (t := woken) {} (.ofWithTestedMark ..))
        rw [State.firstBoundary_kept kept, State.firstMark_waking_tested quietly waking plain, standing.takeover]
      · refine drives _ ?_ (Standing.trans (t := { woken with bus := { woken.bus with link := .waking } }) {}
          ((Standing.ofPost ..).trans (.ofWithMark ..)))
        rw [State.firstBoundary_kept kept, State.firstMark_quiet_wakes quietly quiet swap, standing.takeover]
      · refine drives _ ?_ (.ofWithTestedMark ..)
        rw [State.firstBoundary_kept kept, State.firstMark_quiet_tested quietly quiet plain, standing.takeover]
      · intro found spent
        have heardFree : heard.own.takeover = false := by rw [own]; exact untaken
        have plain := phases.symm.trans (State.readyToDrive_untaken heardFree b)
        have bus : ready.bus = went.bus := by
          rw [plain]
          exact ((heard.abortTest_same _).bus (by decide)).trans (same.bus (by decide))
        have change : ready.change = s.change := by
          rw [plain]
          exact ((heard.abortTest_same _).change (by decide)).trans (same.change (by decide))
        have freeCount : ready.freeCount = s.freeCount :=
          (readySame.freeCount (by decide)).trans (same.freeCount (by decide))
        have spends : { ready with freeCount := ready.freeCount + 1 } = spent := by rw [freeCount]
        have held : ready.own.takeover = false := standing.takeover.trans untaken
        refine ⟨fun first => drives _ ?_ ?_, fun last unchanged => drives _ ?_ ?_⟩
        · have apart : TilesApart ready := by
            unfold TilesApart
            rw [bus, addresses]
            decide
          rw [State.firstBoundary_clearsFirst quietly apart active due_ (by rwa [freeCount]), held, spends]
        · exact Standing.trans (t := spent) {} ((Standing.ofWithCleared ..).trans (.ofWithTestedMark ..))
        · rw [State.firstBoundary_clearsAfter quietly active due_ (by rwa [freeCount]) (change.trans unchanged), held,
            spends]
        · exact Standing.trans (t := spent) {} ((Standing.ofWithMark ..).trans (.ofWithCleared ..))
  · intro carried inLine
    have built := s.takeover_eq (inLine := inLine) fun i =>
      (Screen.takenOver_eq (s.screens.get i) (s.mirror.screens.get i) State.mem_disagreeing).symm
    refine ⟨built, fun ch f hch hf => ?_⟩
    rw [built, hch, show (some ch).bind (fun c => c.firing) = some f from hf]
    exact State.build_firing ..

end Sys2Proof.Machine
end
